-- ==== Sys2Proof/Word.lean ====
section
/-! DEFINITION. The two widths of the block (spec/00_scope.md R4, R7): a byte is 8 bits, a word 16, both unsigned.
`+` and `-` on them are the spec's `+_8`, `-_8`, `+_16` and `-_16`: modulo 256 and modulo 65,536. -/

namespace Sys2Proof

/-- 8 bits: A, X, Y, SP, an opcode, an operand byte, a memory cell (R4). -/
abbrev Byte := BitVec 8

/-- 16 bits: PC and every memory address (R4). -/
abbrev Word := BitVec 16

end Sys2Proof
end

