-- ==== Sys2Proof/Machine/Bits.lean ====
section
/-! DEFINITION. Byte order and bit fields: the helpers of spec/00_scope.md R7 and spec/40_fetch_and_addressing.md R75
that the decoder, the addressing modes and the stack use. -/

namespace Sys2Proof.Machine

/-- `zext_16(b)`: eight zero bits on top (R7). -/
def zext16 (b : Byte) : Word := b.setWidth 16

/-- `w[7:0]` (R7). -/
def loByte (w : Word) : Byte := w.extractLsb' 0 8

/-- `w[15:8]`, the page number of an address (R7). -/
def hiByte (w : Word) : Byte := w.extractLsb' 8 8

/-- `v[7]`, which the N flag copies (R7, R74). -/
def bit7 (v : Byte) : Bool := v.getLsbD 7

/-- `EffAddr(lo, hi)` is `lo + (hi << 8)`, the only composition of two bytes in the block (R75). -/
def effAddr (lo hi : Byte) : Word := zext16 lo + (zext16 hi <<< 8)

end Sys2Proof.Machine
end

