-- ==== Sys2Proof/Config.lean ====
section
/-! DEFINITION. The named parameters of spec/00_scope.md R5 that a value of some width stands for. Their values are
`Sys2Proof.Machine.config` (Machine/Params.lean). The other parameters of R5 are choices of form and have no field:
ADDR_OVERFLOW = wrap is the modular `+` and `-` of `Word` (D5), CYC_WIDTH = unbounded is the type `Nat` of the two
counters (D7), HOST_REG_ACCESS = all is the type `HostWrite` (D9), OPCODE_MAP is Decode.lean (D10, D11).
There is no free value: after reset nothing is unspecified (spec/70_reset_and_hazards.md R155). -/

namespace Sys2Proof

/-- The parameters the source leaves open and the spec gives a value (R5). -/
structure Config where
  /-- STACK_BASE: base address of the stack page (D3). -/
  stackBase : Word
  /-- JSR_SP_STEP: how far JSR moves SP down (D2). -/
  jsrSpStep : Byte
  /-- MEM_SEED: the bytes memory initialise puts at 0x0000 and 0x0001 after zero-filling, or none (D4). -/
  memSeed : Option (Byte × Byte)
  /-- ZP_PTR_HIGH_WRAP: whether the high byte of a pointer at 0x00FF comes from 0x0000 (true) or 0x0100 (false) (D6). -/
  zpPtrHighWrap : Bool
  deriving DecidableEq, Repr

end Sys2Proof
end

