-- ==== Sys2Proof/Machine/Params.lean ====
section
/-! DEFINITION. The values spec/00_scope.md R5 takes for its parameters. -/

namespace Sys2Proof.Machine

/-- R5's column "Value taken": D3 (log 5), D2 (log 6), D4 (log 10), D6 (log 8). -/
def config : Config where
  stackBase := 0x0100#16
  jsrSpStep := 1#8
  memSeed := none
  zpPtrHighWrap := false

end Sys2Proof.Machine
end

