-- ==== Sys2Proof/Machine/Memory.lean ====
section
/-! DEFINITION. The 65,536 byte cells (spec/20_memory.md R30 to R35) as a list of (address, byte) pairs in one canonical
form: addresses strictly rising and below 65,536, and no listed byte 0x00, which is what an unlisted address reads as
(R35: memory initialise zero-fills). -/

namespace Sys2Proof.Machine

/-- The listed cells. -/
abbrev Memory := List Host.Cell

/-- What an unlisted address reads as: 0x00, the contents after memory initialise (R35). -/
def unlistedByte : Byte := 0x00#8

/-- `MemRead(addr, 1)`: always answers the stored byte (R31, R32). -/
def Memory.read (m : Memory) (addr : Word) : Byte :=
  match m with
  | [] => unlistedByte
  | (k, v) :: rest => if k = addr.toNat then v else Memory.read rest addr

/-- The list without the cell at `k`. -/
def Memory.dropCell (m : Memory) (k : Nat) : Memory := m.filter fun c => c.1 != k

/-- The list with the cell `(k, v)` put before the first cell of a higher address. -/
def Memory.putCell (m : Memory) (k : Nat) (v : Byte) : Memory :=
  match m with
  | [] => [(k, v)]
  | (j, w) :: rest => if k < j then (k, v) :: (j, w) :: rest else (j, w) :: Memory.putCell rest k v

/-- `MemWrite(addr, 1, v)`: always succeeds and replaces the stored byte (R31, R33). Writing what an unlisted address
reads as removes the entry, so that equal memories are equal lists. -/
def Memory.write (m : Memory) (addr : Word) (v : Byte) : Memory :=
  if v = unlistedByte then m.dropCell addr.toNat else (m.dropCell addr.toNat).putCell addr.toNat v

/-- Memory initialise: every cell 0x00, then the seed bytes if MEM_SEED gives any (R35; D4: it gives none). -/
def Memory.init : Memory :=
  match config.memSeed with
  | none => []
  | some (lo, hi) => Memory.write (Memory.write [] 0x0000#16 lo) 0x0001#16 hi

/-- The canonical form of the cells from address `low` up. -/
def Memory.wfFrom (low : Nat) : Memory → Bool
  | [] => true
  | (k, v) :: rest => low ≤ k && k < 65536 && v != unlistedByte && Memory.wfFrom (k + 1) rest

/-- The canonical form: addresses strictly rising, each below 65,536 (R30), no listed byte 0x00. -/
def Memory.wf (m : Memory) : Bool := Memory.wfFrom 0 m

end Sys2Proof.Machine
end

