-- ==== Sys2Proof/Machine/State.lean ====
section
/-! DEFINITION. All the state of spec/10_state.md section 1, the two outputs of an execute transaction
(spec/70_reset_and_hazards.md R144), the model's own event history (spec/20_memory.md R47), the reasons a step can stop,
and the state after reset. -/

namespace Sys2Proof.Machine

/-- The seven independent 1-bit flags (spec/10_state.md R15, R18; no packed byte: D15, log 17). -/
structure Flags where
  /-- Negative: bit 7 of the byte last loaded. -/
  n : Bool
  /-- Overflow: written by no instruction (R16). -/
  v : Bool
  /-- Break: written by no instruction (R16). -/
  b : Bool
  /-- Decimal: written by no instruction, selects nothing (R16). -/
  d : Bool
  /-- Interrupt-disable: written by no instruction, masks nothing (R16). -/
  i : Bool
  /-- Zero: the byte last loaded is 0x00. -/
  z : Bool
  /-- Carry: written by no instruction (R16). -/
  c : Bool
  deriving DecidableEq, Repr

/-- The two states of the core (spec/10_state.md R21). -/
inductive RunState where
  /-- Before the first reset transaction: every other piece of state is unspecified (R142). -/
  | reset
  /-- After a reset transaction. -/
  | running
  deriving DecidableEq, Repr

/-- One memory event of an instruction (spec/20_memory.md R47). -/
inductive MemEvent where
  | read (addr : Word)
  | write (addr : Word)
  deriving DecidableEq, Repr

/-- The machine's state. -/
structure State where
  /-- A, the accumulator (R10). -/
  a : Byte
  /-- X, index register (R10). -/
  x : Byte
  /-- Y, index register (R10). -/
  y : Byte
  /-- SP, an offset into the stack page (R11). -/
  sp : Byte
  /-- PC: the next byte to fetch (R12). -/
  pc : Word
  /-- The flags, `P` in the rules (R15). -/
  p : Flags
  /-- M[0..65535] (spec/20_memory.md R30). -/
  mem : Memory
  /-- CYC: the cycles of every execute since the last reset, unbounded (R19). -/
  cycTotal : Nat
  /-- `cyc`: the cycles of the instruction in flight; after an execute, its `cycles` output (R20, R144). -/
  cyc : Nat
  /-- `run_state` (R21). -/
  runState : RunState
  /-- The `diag` output of the last execute: none or the unhandled opcode byte (R120, R144; log 2). -/
  diag : Option Byte
  /-- The model's own: the memory events of the last execute, oldest first (R47; log 1). No rule reads it. -/
  events : List MemEvent
  deriving DecidableEq, Repr

/-- The machine has no fault: every address is readable and writable, no instruction traps, no address can leave its
16 bits (spec/20_memory.md R31, spec/60_exceptions.md R121, R134; log 20). So nothing raises one. -/
inductive Fault where
  deriving DecidableEq, Repr

/-- Why a transaction has no meaning. -/
inductive Refusal where
  /-- Raised by an arm of `exec` whose instruction has no meaning yet. Safe: no arm raises it now. -/
  | notModelled (mnemonic : String)
  /-- Raised by `step` while `run_state = Reset`: an execute before the first reset has no defined behaviour and "a
  model refuses it" (spec/70_reset_and_hazards.md R142; 93 U1). Safe. -/
  | executeBeforeReset
  /-- Raised by `transact` and `hostRead` while `run_state = Reset`: reset must be the first transaction
  (spec/70_reset_and_hazards.md R156; 93 U3). Safe. -/
  | hostAccessBeforeReset
  deriving DecidableEq, Repr

/-- The state a reset transaction leaves (spec/10_state.md R23, spec/70_reset_and_hazards.md R140). `diag` and `events`
are empty: log 2, log 1. -/
def State.reset : State where
  a := 0x00#8
  x := 0x00#8
  y := 0x00#8
  sp := 0xFF#8
  pc := 0xFFFC#16
  p := { n := false, v := false, b := false, d := false, i := false, z := false, c := false }
  mem := Memory.init
  cycTotal := 0
  cyc := 0
  runState := .running
  diag := none
  events := []

end Sys2Proof.Machine
end

