-- ==== Sys2Proof/Syntax.lean ====
section
/-! DEFINITION. The instructions (spec/30_encoding.md R50 to R54): one constructor per row of spec/opcode_table.json, and
the static mapping of R52 from an instruction to its mode, operation and cycle cost. -/

namespace Sys2Proof

/-- The general registers a load can have as its destination (spec/10_state.md R10, R52). -/
inductive DataReg where
  | a
  | x
  | y
  deriving DecidableEq, Repr

/-- The addressing-mode tags of R52. -/
inductive AddrMode where
  | imm | zp | zpx | zpy | abs | absx | absy | indx | indy | jmpabs | jsrabs | none
  deriving DecidableEq, Repr

/-- The operation tags of R52. -/
inductive Operation where
  | load (r : DataReg)
  | jump
  | call
  | nothing
  deriving DecidableEq, Repr

/-- The four fields of a handled opcode's table entry (R52). -/
structure OpInfo where
  mode : AddrMode
  op : Operation
  baseCycles : Nat
  pageCross : Bool
  deriving DecidableEq, Repr

/-- An entry of the 256-entry decoder table (R52): handled, or "unhandled" (R56). -/
inductive OpEntry where
  | handled (info : OpInfo)
  | unhandled
  deriving DecidableEq, Repr

/-- The instructions. `d8` is the operand byte of format F2; a 16-bit operand is `hi : lo` of format F3 (R51, R53).
`unhandledHH` is the opcode byte 0xHH outside the dispatch table (R56). -/
inductive Instr where
  /-- LDA immediate (R90). -/
  | ldaImm (d8 : Byte)
  /-- LDA zero page (R91). -/
  | ldaZp (d8 : Byte)
  /-- LDA zero page,X (R92). -/
  | ldaZpX (d8 : Byte)
  /-- LDA absolute (R93). -/
  | ldaAbs (addr : Word)
  /-- LDA absolute,X (R94). -/
  | ldaAbsX (base : Word)
  /-- LDA absolute,Y (R95). -/
  | ldaAbsY (base : Word)
  /-- LDA `(zp,X)` (R96). -/
  | ldaIndX (d8 : Byte)
  /-- LDA `(zp),Y` (R97). -/
  | ldaIndY (d8 : Byte)
  /-- LDX immediate (R98). -/
  | ldxImm (d8 : Byte)
  /-- LDX zero page (R99). -/
  | ldxZp (d8 : Byte)
  /-- LDX zero page,Y (R100). -/
  | ldxZpY (d8 : Byte)
  /-- LDX absolute (R101). -/
  | ldxAbs (addr : Word)
  /-- LDX absolute,Y (R102). -/
  | ldxAbsY (base : Word)
  /-- LDY immediate (R103). -/
  | ldyImm (d8 : Byte)
  /-- LDY zero page (R104). -/
  | ldyZp (d8 : Byte)
  /-- LDY zero page,X (R105). -/
  | ldyZpX (d8 : Byte)
  /-- LDY absolute (R106). -/
  | ldyAbs (addr : Word)
  /-- LDY absolute,X (R107). -/
  | ldyAbsX (base : Word)
  /-- JMP absolute (R110). -/
  | jmpAbs (target : Word)
  /-- JMP indirect, the placeholder: no operand is read (R111). -/
  | jmpInd
  /-- JSR (R112). -/
  | jsr (target : Word)
  | unhandled00 | unhandled01 | unhandled02 | unhandled03 | unhandled04 | unhandled05 | unhandled06 | unhandled07
  | unhandled08 | unhandled09 | unhandled0A | unhandled0B | unhandled0C | unhandled0D | unhandled0E | unhandled0F
  | unhandled10 | unhandled11 | unhandled12 | unhandled13 | unhandled14 | unhandled15 | unhandled16 | unhandled17
  | unhandled18 | unhandled19 | unhandled1A | unhandled1B | unhandled1C | unhandled1D | unhandled1E | unhandled1F
  | unhandled21 | unhandled22 | unhandled23 | unhandled24 | unhandled25 | unhandled26 | unhandled27 | unhandled28
  | unhandled29 | unhandled2A | unhandled2B | unhandled2C | unhandled2D | unhandled2E | unhandled2F
  | unhandled30 | unhandled31 | unhandled32 | unhandled33 | unhandled34 | unhandled35 | unhandled36 | unhandled37
  | unhandled38 | unhandled39 | unhandled3A | unhandled3B | unhandled3C | unhandled3D | unhandled3E | unhandled3F
  | unhandled40 | unhandled41 | unhandled42 | unhandled43 | unhandled44 | unhandled45 | unhandled46 | unhandled47
  | unhandled48 | unhandled49 | unhandled4A | unhandled4B | unhandled4D | unhandled4E | unhandled4F
  | unhandled50 | unhandled51 | unhandled52 | unhandled53 | unhandled54 | unhandled55 | unhandled56 | unhandled57
  | unhandled58 | unhandled59 | unhandled5A | unhandled5B | unhandled5C | unhandled5D | unhandled5E | unhandled5F
  | unhandled60 | unhandled61 | unhandled62 | unhandled63 | unhandled64 | unhandled65 | unhandled66 | unhandled67
  | unhandled68 | unhandled69 | unhandled6A | unhandled6B | unhandled6D | unhandled6E | unhandled6F
  | unhandled70 | unhandled71 | unhandled72 | unhandled73 | unhandled74 | unhandled75 | unhandled76 | unhandled77
  | unhandled78 | unhandled79 | unhandled7A | unhandled7B | unhandled7C | unhandled7D | unhandled7E | unhandled7F
  | unhandled80 | unhandled81 | unhandled82 | unhandled83 | unhandled84 | unhandled85 | unhandled86 | unhandled87
  | unhandled88 | unhandled89 | unhandled8A | unhandled8B | unhandled8C | unhandled8D | unhandled8E | unhandled8F
  | unhandled90 | unhandled91 | unhandled92 | unhandled93 | unhandled94 | unhandled95 | unhandled96 | unhandled97
  | unhandled98 | unhandled99 | unhandled9A | unhandled9B | unhandled9C | unhandled9D | unhandled9E | unhandled9F
  | unhandledA3 | unhandledA7 | unhandledA8 | unhandledAA | unhandledAB | unhandledAF
  | unhandledB0 | unhandledB2 | unhandledB3 | unhandledB7 | unhandledB8 | unhandledBA | unhandledBB | unhandledBF
  | unhandledC0 | unhandledC1 | unhandledC2 | unhandledC3 | unhandledC4 | unhandledC5 | unhandledC6 | unhandledC7
  | unhandledC8 | unhandledC9 | unhandledCA | unhandledCB | unhandledCC | unhandledCD | unhandledCE | unhandledCF
  | unhandledD0 | unhandledD1 | unhandledD2 | unhandledD3 | unhandledD4 | unhandledD5 | unhandledD6 | unhandledD7
  | unhandledD8 | unhandledD9 | unhandledDA | unhandledDB | unhandledDC | unhandledDD | unhandledDE | unhandledDF
  | unhandledE0 | unhandledE1 | unhandledE2 | unhandledE3 | unhandledE4 | unhandledE5 | unhandledE6 | unhandledE7
  | unhandledE8 | unhandledE9 | unhandledEA | unhandledEB | unhandledEC | unhandledED | unhandledEE | unhandledEF
  | unhandledF0 | unhandledF1 | unhandledF2 | unhandledF3 | unhandledF4 | unhandledF5 | unhandledF6 | unhandledF7
  | unhandledF8 | unhandledF9 | unhandledFA | unhandledFB | unhandledFC | unhandledFD | unhandledFE | unhandledFF
  deriving DecidableEq, Repr

/-- The entry of the decoder table an instruction comes from: mode, operation, base cycles and whether the page-cross
cycle can be added (R52, R54, spec/40_fetch_and_addressing.md R88). -/
def Instr.entry : Instr → OpEntry
  | .ldaImm _ => .handled ⟨.imm, .load .a, 2, false⟩
  | .ldaZp _ => .handled ⟨.zp, .load .a, 3, false⟩
  | .ldaZpX _ => .handled ⟨.zpx, .load .a, 4, false⟩
  | .ldaAbs _ => .handled ⟨.abs, .load .a, 4, false⟩
  | .ldaAbsX _ => .handled ⟨.absx, .load .a, 4, true⟩
  | .ldaAbsY _ => .handled ⟨.absy, .load .a, 4, true⟩
  | .ldaIndX _ => .handled ⟨.indx, .load .a, 6, false⟩
  | .ldaIndY _ => .handled ⟨.indy, .load .a, 5, true⟩
  | .ldxImm _ => .handled ⟨.imm, .load .x, 2, false⟩
  | .ldxZp _ => .handled ⟨.zp, .load .x, 3, false⟩
  | .ldxZpY _ => .handled ⟨.zpy, .load .x, 4, false⟩
  | .ldxAbs _ => .handled ⟨.abs, .load .x, 4, false⟩
  | .ldxAbsY _ => .handled ⟨.absy, .load .x, 4, true⟩
  | .ldyImm _ => .handled ⟨.imm, .load .y, 2, false⟩
  | .ldyZp _ => .handled ⟨.zp, .load .y, 3, false⟩
  | .ldyZpX _ => .handled ⟨.zpx, .load .y, 4, false⟩
  | .ldyAbs _ => .handled ⟨.abs, .load .y, 4, false⟩
  | .ldyAbsX _ => .handled ⟨.absx, .load .y, 4, true⟩
  | .jmpAbs _ => .handled ⟨.jmpabs, .jump, 3, false⟩
  | .jmpInd => .handled ⟨.none, .nothing, 1, false⟩
  | .jsr _ => .handled ⟨.jsrabs, .call, 6, false⟩
  | .unhandled00 | .unhandled01 | .unhandled02 | .unhandled03 | .unhandled04 | .unhandled05 | .unhandled06 | .unhandled07
  | .unhandled08 | .unhandled09 | .unhandled0A | .unhandled0B | .unhandled0C | .unhandled0D | .unhandled0E | .unhandled0F
  | .unhandled10 | .unhandled11 | .unhandled12 | .unhandled13 | .unhandled14 | .unhandled15 | .unhandled16 | .unhandled17
  | .unhandled18 | .unhandled19 | .unhandled1A | .unhandled1B | .unhandled1C | .unhandled1D | .unhandled1E | .unhandled1F
  | .unhandled21 | .unhandled22 | .unhandled23 | .unhandled24 | .unhandled25 | .unhandled26 | .unhandled27 | .unhandled28
  | .unhandled29 | .unhandled2A | .unhandled2B | .unhandled2C | .unhandled2D | .unhandled2E | .unhandled2F | .unhandled30
  | .unhandled31 | .unhandled32 | .unhandled33 | .unhandled34 | .unhandled35 | .unhandled36 | .unhandled37 | .unhandled38
  | .unhandled39 | .unhandled3A | .unhandled3B | .unhandled3C | .unhandled3D | .unhandled3E | .unhandled3F | .unhandled40
  | .unhandled41 | .unhandled42 | .unhandled43 | .unhandled44 | .unhandled45 | .unhandled46 | .unhandled47 | .unhandled48
  | .unhandled49 | .unhandled4A | .unhandled4B | .unhandled4D | .unhandled4E | .unhandled4F | .unhandled50 | .unhandled51
  | .unhandled52 | .unhandled53 | .unhandled54 | .unhandled55 | .unhandled56 | .unhandled57 | .unhandled58 | .unhandled59
  | .unhandled5A | .unhandled5B | .unhandled5C | .unhandled5D | .unhandled5E | .unhandled5F | .unhandled60 | .unhandled61
  | .unhandled62 | .unhandled63 | .unhandled64 | .unhandled65 | .unhandled66 | .unhandled67 | .unhandled68 | .unhandled69
  | .unhandled6A | .unhandled6B | .unhandled6D | .unhandled6E | .unhandled6F | .unhandled70 | .unhandled71 | .unhandled72
  | .unhandled73 | .unhandled74 | .unhandled75 | .unhandled76 | .unhandled77 | .unhandled78 | .unhandled79 | .unhandled7A
  | .unhandled7B | .unhandled7C | .unhandled7D | .unhandled7E | .unhandled7F | .unhandled80 | .unhandled81 | .unhandled82
  | .unhandled83 | .unhandled84 | .unhandled85 | .unhandled86 | .unhandled87 | .unhandled88 | .unhandled89 | .unhandled8A
  | .unhandled8B | .unhandled8C | .unhandled8D | .unhandled8E | .unhandled8F | .unhandled90 | .unhandled91 | .unhandled92
  | .unhandled93 | .unhandled94 | .unhandled95 | .unhandled96 | .unhandled97 | .unhandled98 | .unhandled99 | .unhandled9A
  | .unhandled9B | .unhandled9C | .unhandled9D | .unhandled9E | .unhandled9F | .unhandledA3 | .unhandledA7 | .unhandledA8
  | .unhandledAA | .unhandledAB | .unhandledAF | .unhandledB0 | .unhandledB2 | .unhandledB3 | .unhandledB7 | .unhandledB8
  | .unhandledBA | .unhandledBB | .unhandledBF | .unhandledC0 | .unhandledC1 | .unhandledC2 | .unhandledC3 | .unhandledC4
  | .unhandledC5 | .unhandledC6 | .unhandledC7 | .unhandledC8 | .unhandledC9 | .unhandledCA | .unhandledCB | .unhandledCC
  | .unhandledCD | .unhandledCE | .unhandledCF | .unhandledD0 | .unhandledD1 | .unhandledD2 | .unhandledD3 | .unhandledD4
  | .unhandledD5 | .unhandledD6 | .unhandledD7 | .unhandledD8 | .unhandledD9 | .unhandledDA | .unhandledDB | .unhandledDC
  | .unhandledDD | .unhandledDE | .unhandledDF | .unhandledE0 | .unhandledE1 | .unhandledE2 | .unhandledE3 | .unhandledE4
  | .unhandledE5 | .unhandledE6 | .unhandledE7 | .unhandledE8 | .unhandledE9 | .unhandledEA | .unhandledEB | .unhandledEC
  | .unhandledED | .unhandledEE | .unhandledEF | .unhandledF0 | .unhandledF1 | .unhandledF2 | .unhandledF3 | .unhandledF4
  | .unhandledF5 | .unhandledF6 | .unhandledF7 | .unhandledF8 | .unhandledF9 | .unhandledFA | .unhandledFB | .unhandledFC
  | .unhandledFD | .unhandledFE | .unhandledFF => .unhandled

end Sys2Proof
end

