-- ==== Sys2Proof/Machine/Ops.lean ====
section
/-! DEFINITION. The primitives every instruction rule uses (spec/00_scope.md R8): the cycle counter, the fetch and read
wrappers, the word write of JSR, the registers, and the one exception-like event. -/

namespace Sys2Proof.Machine

/-- `Tick(n)` adds `n` to the count of the instruction in flight and does nothing else
(spec/40_fetch_and_addressing.md R70). -/
def tick (n : Nat) (s : State) : State := { s with cyc := s.cyc + n }

/-- Enters one memory event in the history of the execute in flight (spec/20_memory.md R47). -/
def note (e : MemEvent) (s : State) : State := { s with events := s.events ++ [e] }

/-- `FetchByte()`: the byte at PC; PC moves up by one modulo 65,536; one cycle (R71). -/
def fetchByte (s : State) : Byte × State :=
  (s.mem.read s.pc, tick 1 (note (.read s.pc) { s with pc := s.pc + 1#16 }))

/-- `FetchWord()`: two bytes, low byte first (R72). -/
def fetchWord (s : State) : Word × State :=
  let lo := fetchByte s
  let hi := fetchByte lo.2
  (effAddr lo.1 hi.1, hi.2)

/-- What `FetchByte` does to the state: how a meaning consumes an operand byte the decoder has already read (log 3). -/
def passByte (s : State) : State := (fetchByte s).2

/-- What `FetchWord` does to the state (log 3). -/
def passWord (s : State) : State := (fetchWord s).2

/-- `ReadByte(addr)`: the byte there; PC stays; one cycle (R73). -/
def readByte (addr : Word) (s : State) : Byte × State :=
  (s.mem.read addr, tick 1 (note (.read addr) s))

/-- `MemWrite(addr, 1, v)` (spec/20_memory.md R33), entered in the history. -/
def memWrite (addr : Word) (v : Byte) (s : State) : State :=
  note (.write addr) { s with mem := s.mem.write addr v }

/-- `WriteWord(value, saddr)`: the low byte at `saddr`, then the high byte one address LOWER, modulo 65,536; two cycles
(spec/20_memory.md R34). -/
def writeWord (value saddr : Word) (s : State) : State :=
  tick 2 (memWrite (saddr - 1#16) (hiByte value) (memWrite saddr (loByte value) s))

/-- `StackAddr(s)`: the memory address of a stack pointer value (spec/10_state.md R14). -/
def stackAddr (sp : Byte) : Word := config.stackBase + zext16 sp

/-- `reg[r]` (R8). -/
def getReg (r : DataReg) (s : State) : Byte :=
  match r with
  | .a => s.a
  | .x => s.x
  | .y => s.y

/-- `reg[r] <- v` (R8): writes that register and no other (spec/10_state.md R10). -/
def setReg (r : DataReg) (v : Byte) (s : State) : State :=
  match r with
  | .a => { s with a := v }
  | .x => { s with x := v }
  | .y => { s with y := v }

/-- `raise Unhandled(op)`, the block's one exception-like event, shared by every unhandled opcode: it sets the `diag`
output of this execute and nothing else (spec/60_exceptions.md R120). It is this machine's whole "taking an exception":
no state is saved, no mode or mask changes, PC is not redirected (R124), and so there is no return from one (R125). -/
def raiseUnhandled (op : Byte) (s : State) : State := { s with diag := some op }

/-- The start of an execute transaction, up to and with the fetch of the opcode (spec/70_reset_and_hazards.md R145):
`cyc` and `diag` are cleared, the event history starts anew, `FetchByte` has charged one cycle and moved PC. -/
def beginExecute (s : State) : State :=
  passByte { s with cyc := 0, diag := none, events := [] }

/-- The end of an execute transaction: `CYC <- CYC + cyc` (R145). -/
def endExecute (s : State) : State := { s with cycTotal := s.cycTotal + s.cyc }

/-- The execute transaction around the outcome of its instruction (R145). -/
def finishExecute (o : Host.Outcome State Fault Refusal) : Host.Outcome State Fault Refusal :=
  match o with
  | .next s => .next (endExecute s)
  | .fault r => .fault r
  | .refused r => .refused r

/-- `Reset()` line by line (spec/70_reset_and_hazards.md R140). Valid in either `run_state`; everything is discarded,
the whole memory image too. The outputs of the last execute go with it (log 2, log 1). -/
def resetMachine (_ : State) : State :=
  { pc := 0xFFFC#16, sp := 0xFF#8, a := 0x00#8, x := 0x00#8, y := 0x00#8,
    p := { n := false, v := false, b := false, d := false, i := false, z := false, c := false },
    mem := Memory.init, cycTotal := 0, cyc := 0, runState := .running, diag := none, events := [] }

end Sys2Proof.Machine
end

