-- ==== Sys2Proof/Machine/Jumps.lean ====
section
/-! DEFINITION. Control transfer (spec/42_jumps_and_calls.md). A meaning starts after the opcode fetch: one cycle charged,
PC at the byte after the opcode. There is no other control transfer in the block (R113, R114). -/

namespace Sys2Proof.Machine

/-- JMP absolute (R110): PC is set to the fetched word directly. -/
def execJmpAbs (target : Word) (s : State) : Host.Outcome State Fault Refusal :=
  .next { passWord s with pc := target }

/-- JMP indirect, the placeholder (R111): nothing beyond the opcode fetch, and no diagnostic. -/
def execJmpInd (s : State) : Host.Outcome State Fault Refusal := .next s

/-- JSR (R112): the address of its own last byte is stored as a word at the stack address, SP moves down by
JSR_SP_STEP modulo 256, PC is set to the target, and one internal cycle is charged. -/
def execJsr (target : Word) (s : State) : Host.Outcome State Fault Refusal :=
  let s1 := passWord s
  let s2 := writeWord (s1.pc - 1#16) (stackAddr s1.sp) s1
  .next (tick 1 { s2 with sp := s2.sp - config.jsrSpStep, pc := target })

end Sys2Proof.Machine
end

