-- ==== Sys2Proof/Machine/Flags.lean ====
section
/-! DEFINITION. The whole status-flag logic of the block (spec/40_fetch_and_addressing.md R74, R86): the zero and
bit-7 detectors. No instruction writes V, B, D, I or C (spec/10_state.md R16). -/

namespace Sys2Proof.Machine

/-- The zero detector of R74. -/
def zeroFlag (v : Byte) : Bool := v == 0x00#8

/-- The negative detector of R74: a copy of bit 7. -/
def negativeFlag (v : Byte) : Bool := bit7 v

/-- `SetZN(v)`: writes Z and N and no other flag (R74). -/
def setZN (v : Byte) (s : State) : State :=
  { s with p := { s.p with z := zeroFlag v, n := negativeFlag v } }

end Sys2Proof.Machine
end

