-- ==== Sys2Proof/Machine/Operands.lean ====
section
/-! DEFINITION. The addressing-mode resolver (spec/40_fetch_and_addressing.md R76 to R85). Each `operand…` takes the
operand the decoder read, consumes its bytes as `FetchByte` and `FetchWord` do, charges the mode's cycles and answers
the 8-bit operand value. No mode changes X, Y or memory. -/

namespace Sys2Proof.Machine

/-- Zero page: the operand byte is the address (R77). -/
def eaZp (d8 : Byte) : Word := zext16 d8

/-- Zero page indexed: an 8-bit sum, carry dropped, then zero-extended (R78, R79). Also the pointer of `(zp,X)` (R83). -/
def eaZpIdx (d8 idx : Byte) : Word := zext16 (d8 + idx)

/-- Absolute indexed and `(zp),Y`: a full 16-bit sum modulo 65,536, the index zero-extended (R81, R82, R84). -/
def eaAbsIdx (base : Word) (idx : Byte) : Word := base + zext16 idx

/-- Page crossing: the sum changes the high byte (R85). -/
def crossed (base ea : Word) : Bool := hiByte ea != hiByte base

/-- The page-cross cycle: `if Crossed(base, ea) then Tick(1)` (R81, R82, R84). -/
def tickIfCrossed (base ea : Word) (s : State) : State :=
  if crossed base ea then tick 1 s else s

/-- Where the high byte of a zero-page pointer is read: the next 16-bit address, 0x0100 after 0x00FF (R83, R84, D6). -/
def ptrHighAddr (ptr : Word) : Word :=
  if config.zpPtrHighWrap then zext16 (loByte ptr + 1#8) else ptr + 1#16

/-- The 16-bit address a zero-page pointer holds, low byte first (R83, R84, D14). -/
def ptrTarget (m : Memory) (ptr : Word) : Word :=
  effAddr (m.read ptr) (m.read (ptrHighAddr ptr))

/-- Reads a zero-page pointer: two byte reads, one cycle each (R83, R84). -/
def readPtr (ptr : Word) (s : State) : Word × State :=
  let lo := readByte ptr s
  let hi := readByte (ptrHighAddr ptr) lo.2
  (effAddr lo.1 hi.1, hi.2)

/-- Immediate (R76): the operand is the byte itself. -/
def operandImm (d8 : Byte) (s : State) : Byte × State := (d8, passByte s)

/-- Zero page (R77). -/
def operandZp (d8 : Byte) (s : State) : Byte × State :=
  readByte (eaZp d8) (passByte s)

/-- Zero page,X (R78): one internal cycle for the sum. -/
def operandZpX (d8 : Byte) (s : State) : Byte × State :=
  readByte (eaZpIdx d8 s.x) (tick 1 (passByte s))

/-- Zero page,Y (R79). -/
def operandZpY (d8 : Byte) (s : State) : Byte × State :=
  readByte (eaZpIdx d8 s.y) (tick 1 (passByte s))

/-- Absolute (R80). -/
def operandAbs (addr : Word) (s : State) : Byte × State :=
  readByte addr (passWord s)

/-- Absolute,X (R81): one more cycle on a page crossing. -/
def operandAbsX (base : Word) (s : State) : Byte × State :=
  readByte (eaAbsIdx base s.x) (tickIfCrossed base (eaAbsIdx base s.x) (passWord s))

/-- Absolute,Y (R82). -/
def operandAbsY (base : Word) (s : State) : Byte × State :=
  readByte (eaAbsIdx base s.y) (tickIfCrossed base (eaAbsIdx base s.y) (passWord s))

/-- Indexed indirect, `(zp,X)` (R83): one internal cycle for the sum, then the pointer, then the operand. -/
def operandIndX (d8 : Byte) (s : State) : Byte × State :=
  let ptr := readPtr (eaZpIdx d8 s.x) (tick 1 (passByte s))
  readByte ptr.1 ptr.2

/-- Indirect indexed, `(zp),Y` (R84): the pointer, Y added to what it holds, one more cycle on a page crossing. -/
def operandIndY (d8 : Byte) (s : State) : Byte × State :=
  let base := readPtr (eaZp d8) (passByte s)
  readByte (eaAbsIdx base.1 s.y) (tickIfCrossed base.1 (eaAbsIdx base.1 s.y) base.2)

end Sys2Proof.Machine
end

