-- ==== Sys2Proof/Machine/Loads.lean ====
section
/-! DEFINITION. The 18 loads (spec/41_loads.md). Each is the template of spec/40_fetch_and_addressing.md R89 at its mode
and destination. A meaning starts after the opcode fetch: one cycle charged, PC at the byte after the opcode. -/

namespace Sys2Proof.Machine

/-- `Load(r, mode)` after the mode's procedure has given the operand value and the state: the register is written, then
Z and N follow the byte loaded (R89). -/
def load (r : DataReg) (operand : Byte × State) : State :=
  setZN operand.1 (setReg r operand.1 operand.2)

/-- LDA immediate (R90). -/
def execLdaImm (d8 : Byte) (s : State) : Host.Outcome State Fault Refusal :=
  .next (load .a (operandImm d8 s))

/-- LDA zero page (R91). -/
def execLdaZp (d8 : Byte) (s : State) : Host.Outcome State Fault Refusal :=
  .next (load .a (operandZp d8 s))

/-- LDA zero page,X (R92). -/
def execLdaZpX (d8 : Byte) (s : State) : Host.Outcome State Fault Refusal :=
  .next (load .a (operandZpX d8 s))

/-- LDA absolute (R93). -/
def execLdaAbs (addr : Word) (s : State) : Host.Outcome State Fault Refusal :=
  .next (load .a (operandAbs addr s))

/-- LDA absolute,X (R94). -/
def execLdaAbsX (base : Word) (s : State) : Host.Outcome State Fault Refusal :=
  .next (load .a (operandAbsX base s))

/-- LDA absolute,Y (R95). -/
def execLdaAbsY (base : Word) (s : State) : Host.Outcome State Fault Refusal :=
  .next (load .a (operandAbsY base s))

/-- LDA `(zp,X)` (R96). -/
def execLdaIndX (d8 : Byte) (s : State) : Host.Outcome State Fault Refusal :=
  .next (load .a (operandIndX d8 s))

/-- LDA `(zp),Y` (R97). -/
def execLdaIndY (d8 : Byte) (s : State) : Host.Outcome State Fault Refusal :=
  .next (load .a (operandIndY d8 s))

/-- LDX immediate (R98). -/
def execLdxImm (d8 : Byte) (s : State) : Host.Outcome State Fault Refusal :=
  .next (load .x (operandImm d8 s))

/-- LDX zero page (R99). -/
def execLdxZp (d8 : Byte) (s : State) : Host.Outcome State Fault Refusal :=
  .next (load .x (operandZp d8 s))

/-- LDX zero page,Y (R100). -/
def execLdxZpY (d8 : Byte) (s : State) : Host.Outcome State Fault Refusal :=
  .next (load .x (operandZpY d8 s))

/-- LDX absolute (R101). -/
def execLdxAbs (addr : Word) (s : State) : Host.Outcome State Fault Refusal :=
  .next (load .x (operandAbs addr s))

/-- LDX absolute,Y (R102). -/
def execLdxAbsY (base : Word) (s : State) : Host.Outcome State Fault Refusal :=
  .next (load .x (operandAbsY base s))

/-- LDY immediate (R103). -/
def execLdyImm (d8 : Byte) (s : State) : Host.Outcome State Fault Refusal :=
  .next (load .y (operandImm d8 s))

/-- LDY zero page (R104). -/
def execLdyZp (d8 : Byte) (s : State) : Host.Outcome State Fault Refusal :=
  .next (load .y (operandZp d8 s))

/-- LDY zero page,X (R105). -/
def execLdyZpX (d8 : Byte) (s : State) : Host.Outcome State Fault Refusal :=
  .next (load .y (operandZpX d8 s))

/-- LDY absolute (R106). -/
def execLdyAbs (addr : Word) (s : State) : Host.Outcome State Fault Refusal :=
  .next (load .y (operandAbs addr s))

/-- LDY absolute,X (R107). -/
def execLdyAbsX (base : Word) (s : State) : Host.Outcome State Fault Refusal :=
  .next (load .y (operandAbsX base s))

end Sys2Proof.Machine
end

