-- ==== Sys2Proof/Machine/Unhandled.lean ====
section
/-! DEFINITION. The 235 opcode bytes outside the dispatch table (spec/30_encoding.md R56): each raises `Unhandled` with
its own byte and does nothing else (spec/60_exceptions.md R120). The opcode fetch has already moved PC and charged the
one cycle. No operand byte is fetched. -/

namespace Sys2Proof.Machine

/-- The behaviour of every unhandled opcode (R120). -/
def unhandled (op : Byte) (s : State) : Host.Outcome State Fault Refusal := .next (raiseUnhandled op s)

/-- Byte 0x00. -/
def execUnhandled00 (s : State) : Host.Outcome State Fault Refusal := unhandled 0x00#8 s
/-- Byte 0x01. -/
def execUnhandled01 (s : State) : Host.Outcome State Fault Refusal := unhandled 0x01#8 s
/-- Byte 0x02. -/
def execUnhandled02 (s : State) : Host.Outcome State Fault Refusal := unhandled 0x02#8 s
/-- Byte 0x03. -/
def execUnhandled03 (s : State) : Host.Outcome State Fault Refusal := unhandled 0x03#8 s
/-- Byte 0x04. -/
def execUnhandled04 (s : State) : Host.Outcome State Fault Refusal := unhandled 0x04#8 s
/-- Byte 0x05. -/
def execUnhandled05 (s : State) : Host.Outcome State Fault Refusal := unhandled 0x05#8 s
/-- Byte 0x06. -/
def execUnhandled06 (s : State) : Host.Outcome State Fault Refusal := unhandled 0x06#8 s
/-- Byte 0x07. -/
def execUnhandled07 (s : State) : Host.Outcome State Fault Refusal := unhandled 0x07#8 s
/-- Byte 0x08. -/
def execUnhandled08 (s : State) : Host.Outcome State Fault Refusal := unhandled 0x08#8 s
/-- Byte 0x09. -/
def execUnhandled09 (s : State) : Host.Outcome State Fault Refusal := unhandled 0x09#8 s
/-- Byte 0x0A. -/
def execUnhandled0A (s : State) : Host.Outcome State Fault Refusal := unhandled 0x0A#8 s
/-- Byte 0x0B. -/
def execUnhandled0B (s : State) : Host.Outcome State Fault Refusal := unhandled 0x0B#8 s
/-- Byte 0x0C. -/
def execUnhandled0C (s : State) : Host.Outcome State Fault Refusal := unhandled 0x0C#8 s
/-- Byte 0x0D. -/
def execUnhandled0D (s : State) : Host.Outcome State Fault Refusal := unhandled 0x0D#8 s
/-- Byte 0x0E. -/
def execUnhandled0E (s : State) : Host.Outcome State Fault Refusal := unhandled 0x0E#8 s
/-- Byte 0x0F. -/
def execUnhandled0F (s : State) : Host.Outcome State Fault Refusal := unhandled 0x0F#8 s
/-- Byte 0x10. -/
def execUnhandled10 (s : State) : Host.Outcome State Fault Refusal := unhandled 0x10#8 s
/-- Byte 0x11. -/
def execUnhandled11 (s : State) : Host.Outcome State Fault Refusal := unhandled 0x11#8 s
/-- Byte 0x12. -/
def execUnhandled12 (s : State) : Host.Outcome State Fault Refusal := unhandled 0x12#8 s
/-- Byte 0x13. -/
def execUnhandled13 (s : State) : Host.Outcome State Fault Refusal := unhandled 0x13#8 s
/-- Byte 0x14. -/
def execUnhandled14 (s : State) : Host.Outcome State Fault Refusal := unhandled 0x14#8 s
/-- Byte 0x15. -/
def execUnhandled15 (s : State) : Host.Outcome State Fault Refusal := unhandled 0x15#8 s
/-- Byte 0x16. -/
def execUnhandled16 (s : State) : Host.Outcome State Fault Refusal := unhandled 0x16#8 s
/-- Byte 0x17. -/
def execUnhandled17 (s : State) : Host.Outcome State Fault Refusal := unhandled 0x17#8 s
/-- Byte 0x18. -/
def execUnhandled18 (s : State) : Host.Outcome State Fault Refusal := unhandled 0x18#8 s
/-- Byte 0x19. -/
def execUnhandled19 (s : State) : Host.Outcome State Fault Refusal := unhandled 0x19#8 s
/-- Byte 0x1A. -/
def execUnhandled1A (s : State) : Host.Outcome State Fault Refusal := unhandled 0x1A#8 s
/-- Byte 0x1B. -/
def execUnhandled1B (s : State) : Host.Outcome State Fault Refusal := unhandled 0x1B#8 s
/-- Byte 0x1C. -/
def execUnhandled1C (s : State) : Host.Outcome State Fault Refusal := unhandled 0x1C#8 s
/-- Byte 0x1D. -/
def execUnhandled1D (s : State) : Host.Outcome State Fault Refusal := unhandled 0x1D#8 s
/-- Byte 0x1E. -/
def execUnhandled1E (s : State) : Host.Outcome State Fault Refusal := unhandled 0x1E#8 s
/-- Byte 0x1F. -/
def execUnhandled1F (s : State) : Host.Outcome State Fault Refusal := unhandled 0x1F#8 s
/-- Byte 0x21. -/
def execUnhandled21 (s : State) : Host.Outcome State Fault Refusal := unhandled 0x21#8 s
/-- Byte 0x22. -/
def execUnhandled22 (s : State) : Host.Outcome State Fault Refusal := unhandled 0x22#8 s
/-- Byte 0x23. -/
def execUnhandled23 (s : State) : Host.Outcome State Fault Refusal := unhandled 0x23#8 s
/-- Byte 0x24. -/
def execUnhandled24 (s : State) : Host.Outcome State Fault Refusal := unhandled 0x24#8 s
/-- Byte 0x25. -/
def execUnhandled25 (s : State) : Host.Outcome State Fault Refusal := unhandled 0x25#8 s
/-- Byte 0x26. -/
def execUnhandled26 (s : State) : Host.Outcome State Fault Refusal := unhandled 0x26#8 s
/-- Byte 0x27. -/
def execUnhandled27 (s : State) : Host.Outcome State Fault Refusal := unhandled 0x27#8 s
/-- Byte 0x28. -/
def execUnhandled28 (s : State) : Host.Outcome State Fault Refusal := unhandled 0x28#8 s
/-- Byte 0x29. -/
def execUnhandled29 (s : State) : Host.Outcome State Fault Refusal := unhandled 0x29#8 s
/-- Byte 0x2A. -/
def execUnhandled2A (s : State) : Host.Outcome State Fault Refusal := unhandled 0x2A#8 s
/-- Byte 0x2B. -/
def execUnhandled2B (s : State) : Host.Outcome State Fault Refusal := unhandled 0x2B#8 s
/-- Byte 0x2C. -/
def execUnhandled2C (s : State) : Host.Outcome State Fault Refusal := unhandled 0x2C#8 s
/-- Byte 0x2D. -/
def execUnhandled2D (s : State) : Host.Outcome State Fault Refusal := unhandled 0x2D#8 s
/-- Byte 0x2E. -/
def execUnhandled2E (s : State) : Host.Outcome State Fault Refusal := unhandled 0x2E#8 s
/-- Byte 0x2F. -/
def execUnhandled2F (s : State) : Host.Outcome State Fault Refusal := unhandled 0x2F#8 s
/-- Byte 0x30. -/
def execUnhandled30 (s : State) : Host.Outcome State Fault Refusal := unhandled 0x30#8 s
/-- Byte 0x31. -/
def execUnhandled31 (s : State) : Host.Outcome State Fault Refusal := unhandled 0x31#8 s
/-- Byte 0x32. -/
def execUnhandled32 (s : State) : Host.Outcome State Fault Refusal := unhandled 0x32#8 s
/-- Byte 0x33. -/
def execUnhandled33 (s : State) : Host.Outcome State Fault Refusal := unhandled 0x33#8 s
/-- Byte 0x34. -/
def execUnhandled34 (s : State) : Host.Outcome State Fault Refusal := unhandled 0x34#8 s
/-- Byte 0x35. -/
def execUnhandled35 (s : State) : Host.Outcome State Fault Refusal := unhandled 0x35#8 s
/-- Byte 0x36. -/
def execUnhandled36 (s : State) : Host.Outcome State Fault Refusal := unhandled 0x36#8 s
/-- Byte 0x37. -/
def execUnhandled37 (s : State) : Host.Outcome State Fault Refusal := unhandled 0x37#8 s
/-- Byte 0x38. -/
def execUnhandled38 (s : State) : Host.Outcome State Fault Refusal := unhandled 0x38#8 s
/-- Byte 0x39. -/
def execUnhandled39 (s : State) : Host.Outcome State Fault Refusal := unhandled 0x39#8 s
/-- Byte 0x3A. -/
def execUnhandled3A (s : State) : Host.Outcome State Fault Refusal := unhandled 0x3A#8 s
/-- Byte 0x3B. -/
def execUnhandled3B (s : State) : Host.Outcome State Fault Refusal := unhandled 0x3B#8 s
/-- Byte 0x3C. -/
def execUnhandled3C (s : State) : Host.Outcome State Fault Refusal := unhandled 0x3C#8 s
/-- Byte 0x3D. -/
def execUnhandled3D (s : State) : Host.Outcome State Fault Refusal := unhandled 0x3D#8 s
/-- Byte 0x3E. -/
def execUnhandled3E (s : State) : Host.Outcome State Fault Refusal := unhandled 0x3E#8 s
/-- Byte 0x3F. -/
def execUnhandled3F (s : State) : Host.Outcome State Fault Refusal := unhandled 0x3F#8 s
/-- Byte 0x40. -/
def execUnhandled40 (s : State) : Host.Outcome State Fault Refusal := unhandled 0x40#8 s
/-- Byte 0x41. -/
def execUnhandled41 (s : State) : Host.Outcome State Fault Refusal := unhandled 0x41#8 s
/-- Byte 0x42. -/
def execUnhandled42 (s : State) : Host.Outcome State Fault Refusal := unhandled 0x42#8 s
/-- Byte 0x43. -/
def execUnhandled43 (s : State) : Host.Outcome State Fault Refusal := unhandled 0x43#8 s
/-- Byte 0x44. -/
def execUnhandled44 (s : State) : Host.Outcome State Fault Refusal := unhandled 0x44#8 s
/-- Byte 0x45. -/
def execUnhandled45 (s : State) : Host.Outcome State Fault Refusal := unhandled 0x45#8 s
/-- Byte 0x46. -/
def execUnhandled46 (s : State) : Host.Outcome State Fault Refusal := unhandled 0x46#8 s
/-- Byte 0x47. -/
def execUnhandled47 (s : State) : Host.Outcome State Fault Refusal := unhandled 0x47#8 s
/-- Byte 0x48. -/
def execUnhandled48 (s : State) : Host.Outcome State Fault Refusal := unhandled 0x48#8 s
/-- Byte 0x49. -/
def execUnhandled49 (s : State) : Host.Outcome State Fault Refusal := unhandled 0x49#8 s
/-- Byte 0x4A. -/
def execUnhandled4A (s : State) : Host.Outcome State Fault Refusal := unhandled 0x4A#8 s
/-- Byte 0x4B. -/
def execUnhandled4B (s : State) : Host.Outcome State Fault Refusal := unhandled 0x4B#8 s
/-- Byte 0x4D. -/
def execUnhandled4D (s : State) : Host.Outcome State Fault Refusal := unhandled 0x4D#8 s
/-- Byte 0x4E. -/
def execUnhandled4E (s : State) : Host.Outcome State Fault Refusal := unhandled 0x4E#8 s
/-- Byte 0x4F. -/
def execUnhandled4F (s : State) : Host.Outcome State Fault Refusal := unhandled 0x4F#8 s
/-- Byte 0x50. -/
def execUnhandled50 (s : State) : Host.Outcome State Fault Refusal := unhandled 0x50#8 s
/-- Byte 0x51. -/
def execUnhandled51 (s : State) : Host.Outcome State Fault Refusal := unhandled 0x51#8 s
/-- Byte 0x52. -/
def execUnhandled52 (s : State) : Host.Outcome State Fault Refusal := unhandled 0x52#8 s
/-- Byte 0x53. -/
def execUnhandled53 (s : State) : Host.Outcome State Fault Refusal := unhandled 0x53#8 s
/-- Byte 0x54. -/
def execUnhandled54 (s : State) : Host.Outcome State Fault Refusal := unhandled 0x54#8 s
/-- Byte 0x55. -/
def execUnhandled55 (s : State) : Host.Outcome State Fault Refusal := unhandled 0x55#8 s
/-- Byte 0x56. -/
def execUnhandled56 (s : State) : Host.Outcome State Fault Refusal := unhandled 0x56#8 s
/-- Byte 0x57. -/
def execUnhandled57 (s : State) : Host.Outcome State Fault Refusal := unhandled 0x57#8 s
/-- Byte 0x58. -/
def execUnhandled58 (s : State) : Host.Outcome State Fault Refusal := unhandled 0x58#8 s
/-- Byte 0x59. -/
def execUnhandled59 (s : State) : Host.Outcome State Fault Refusal := unhandled 0x59#8 s
/-- Byte 0x5A. -/
def execUnhandled5A (s : State) : Host.Outcome State Fault Refusal := unhandled 0x5A#8 s
/-- Byte 0x5B. -/
def execUnhandled5B (s : State) : Host.Outcome State Fault Refusal := unhandled 0x5B#8 s
/-- Byte 0x5C. -/
def execUnhandled5C (s : State) : Host.Outcome State Fault Refusal := unhandled 0x5C#8 s
/-- Byte 0x5D. -/
def execUnhandled5D (s : State) : Host.Outcome State Fault Refusal := unhandled 0x5D#8 s
/-- Byte 0x5E. -/
def execUnhandled5E (s : State) : Host.Outcome State Fault Refusal := unhandled 0x5E#8 s
/-- Byte 0x5F. -/
def execUnhandled5F (s : State) : Host.Outcome State Fault Refusal := unhandled 0x5F#8 s
/-- Byte 0x60. -/
def execUnhandled60 (s : State) : Host.Outcome State Fault Refusal := unhandled 0x60#8 s
/-- Byte 0x61. -/
def execUnhandled61 (s : State) : Host.Outcome State Fault Refusal := unhandled 0x61#8 s
/-- Byte 0x62. -/
def execUnhandled62 (s : State) : Host.Outcome State Fault Refusal := unhandled 0x62#8 s
/-- Byte 0x63. -/
def execUnhandled63 (s : State) : Host.Outcome State Fault Refusal := unhandled 0x63#8 s
/-- Byte 0x64. -/
def execUnhandled64 (s : State) : Host.Outcome State Fault Refusal := unhandled 0x64#8 s
/-- Byte 0x65. -/
def execUnhandled65 (s : State) : Host.Outcome State Fault Refusal := unhandled 0x65#8 s
/-- Byte 0x66. -/
def execUnhandled66 (s : State) : Host.Outcome State Fault Refusal := unhandled 0x66#8 s
/-- Byte 0x67. -/
def execUnhandled67 (s : State) : Host.Outcome State Fault Refusal := unhandled 0x67#8 s
/-- Byte 0x68. -/
def execUnhandled68 (s : State) : Host.Outcome State Fault Refusal := unhandled 0x68#8 s
/-- Byte 0x69. -/
def execUnhandled69 (s : State) : Host.Outcome State Fault Refusal := unhandled 0x69#8 s
/-- Byte 0x6A. -/
def execUnhandled6A (s : State) : Host.Outcome State Fault Refusal := unhandled 0x6A#8 s
/-- Byte 0x6B. -/
def execUnhandled6B (s : State) : Host.Outcome State Fault Refusal := unhandled 0x6B#8 s
/-- Byte 0x6D. -/
def execUnhandled6D (s : State) : Host.Outcome State Fault Refusal := unhandled 0x6D#8 s
/-- Byte 0x6E. -/
def execUnhandled6E (s : State) : Host.Outcome State Fault Refusal := unhandled 0x6E#8 s
/-- Byte 0x6F. -/
def execUnhandled6F (s : State) : Host.Outcome State Fault Refusal := unhandled 0x6F#8 s
/-- Byte 0x70. -/
def execUnhandled70 (s : State) : Host.Outcome State Fault Refusal := unhandled 0x70#8 s
/-- Byte 0x71. -/
def execUnhandled71 (s : State) : Host.Outcome State Fault Refusal := unhandled 0x71#8 s
/-- Byte 0x72. -/
def execUnhandled72 (s : State) : Host.Outcome State Fault Refusal := unhandled 0x72#8 s
/-- Byte 0x73. -/
def execUnhandled73 (s : State) : Host.Outcome State Fault Refusal := unhandled 0x73#8 s
/-- Byte 0x74. -/
def execUnhandled74 (s : State) : Host.Outcome State Fault Refusal := unhandled 0x74#8 s
/-- Byte 0x75. -/
def execUnhandled75 (s : State) : Host.Outcome State Fault Refusal := unhandled 0x75#8 s
/-- Byte 0x76. -/
def execUnhandled76 (s : State) : Host.Outcome State Fault Refusal := unhandled 0x76#8 s
/-- Byte 0x77. -/
def execUnhandled77 (s : State) : Host.Outcome State Fault Refusal := unhandled 0x77#8 s
/-- Byte 0x78. -/
def execUnhandled78 (s : State) : Host.Outcome State Fault Refusal := unhandled 0x78#8 s
/-- Byte 0x79. -/
def execUnhandled79 (s : State) : Host.Outcome State Fault Refusal := unhandled 0x79#8 s
/-- Byte 0x7A. -/
def execUnhandled7A (s : State) : Host.Outcome State Fault Refusal := unhandled 0x7A#8 s
/-- Byte 0x7B. -/
def execUnhandled7B (s : State) : Host.Outcome State Fault Refusal := unhandled 0x7B#8 s
/-- Byte 0x7C. -/
def execUnhandled7C (s : State) : Host.Outcome State Fault Refusal := unhandled 0x7C#8 s
/-- Byte 0x7D. -/
def execUnhandled7D (s : State) : Host.Outcome State Fault Refusal := unhandled 0x7D#8 s
/-- Byte 0x7E. -/
def execUnhandled7E (s : State) : Host.Outcome State Fault Refusal := unhandled 0x7E#8 s
/-- Byte 0x7F. -/
def execUnhandled7F (s : State) : Host.Outcome State Fault Refusal := unhandled 0x7F#8 s
/-- Byte 0x80. -/
def execUnhandled80 (s : State) : Host.Outcome State Fault Refusal := unhandled 0x80#8 s
/-- Byte 0x81. -/
def execUnhandled81 (s : State) : Host.Outcome State Fault Refusal := unhandled 0x81#8 s
/-- Byte 0x82. -/
def execUnhandled82 (s : State) : Host.Outcome State Fault Refusal := unhandled 0x82#8 s
/-- Byte 0x83. -/
def execUnhandled83 (s : State) : Host.Outcome State Fault Refusal := unhandled 0x83#8 s
/-- Byte 0x84. -/
def execUnhandled84 (s : State) : Host.Outcome State Fault Refusal := unhandled 0x84#8 s
/-- Byte 0x85. -/
def execUnhandled85 (s : State) : Host.Outcome State Fault Refusal := unhandled 0x85#8 s
/-- Byte 0x86. -/
def execUnhandled86 (s : State) : Host.Outcome State Fault Refusal := unhandled 0x86#8 s
/-- Byte 0x87. -/
def execUnhandled87 (s : State) : Host.Outcome State Fault Refusal := unhandled 0x87#8 s
/-- Byte 0x88. -/
def execUnhandled88 (s : State) : Host.Outcome State Fault Refusal := unhandled 0x88#8 s
/-- Byte 0x89. -/
def execUnhandled89 (s : State) : Host.Outcome State Fault Refusal := unhandled 0x89#8 s
/-- Byte 0x8A. -/
def execUnhandled8A (s : State) : Host.Outcome State Fault Refusal := unhandled 0x8A#8 s
/-- Byte 0x8B. -/
def execUnhandled8B (s : State) : Host.Outcome State Fault Refusal := unhandled 0x8B#8 s
/-- Byte 0x8C. -/
def execUnhandled8C (s : State) : Host.Outcome State Fault Refusal := unhandled 0x8C#8 s
/-- Byte 0x8D. -/
def execUnhandled8D (s : State) : Host.Outcome State Fault Refusal := unhandled 0x8D#8 s
/-- Byte 0x8E. -/
def execUnhandled8E (s : State) : Host.Outcome State Fault Refusal := unhandled 0x8E#8 s
/-- Byte 0x8F. -/
def execUnhandled8F (s : State) : Host.Outcome State Fault Refusal := unhandled 0x8F#8 s
/-- Byte 0x90. -/
def execUnhandled90 (s : State) : Host.Outcome State Fault Refusal := unhandled 0x90#8 s
/-- Byte 0x91. -/
def execUnhandled91 (s : State) : Host.Outcome State Fault Refusal := unhandled 0x91#8 s
/-- Byte 0x92. -/
def execUnhandled92 (s : State) : Host.Outcome State Fault Refusal := unhandled 0x92#8 s
/-- Byte 0x93. -/
def execUnhandled93 (s : State) : Host.Outcome State Fault Refusal := unhandled 0x93#8 s
/-- Byte 0x94. -/
def execUnhandled94 (s : State) : Host.Outcome State Fault Refusal := unhandled 0x94#8 s
/-- Byte 0x95. -/
def execUnhandled95 (s : State) : Host.Outcome State Fault Refusal := unhandled 0x95#8 s
/-- Byte 0x96. -/
def execUnhandled96 (s : State) : Host.Outcome State Fault Refusal := unhandled 0x96#8 s
/-- Byte 0x97. -/
def execUnhandled97 (s : State) : Host.Outcome State Fault Refusal := unhandled 0x97#8 s
/-- Byte 0x98. -/
def execUnhandled98 (s : State) : Host.Outcome State Fault Refusal := unhandled 0x98#8 s
/-- Byte 0x99. -/
def execUnhandled99 (s : State) : Host.Outcome State Fault Refusal := unhandled 0x99#8 s
/-- Byte 0x9A. -/
def execUnhandled9A (s : State) : Host.Outcome State Fault Refusal := unhandled 0x9A#8 s
/-- Byte 0x9B. -/
def execUnhandled9B (s : State) : Host.Outcome State Fault Refusal := unhandled 0x9B#8 s
/-- Byte 0x9C. -/
def execUnhandled9C (s : State) : Host.Outcome State Fault Refusal := unhandled 0x9C#8 s
/-- Byte 0x9D. -/
def execUnhandled9D (s : State) : Host.Outcome State Fault Refusal := unhandled 0x9D#8 s
/-- Byte 0x9E. -/
def execUnhandled9E (s : State) : Host.Outcome State Fault Refusal := unhandled 0x9E#8 s
/-- Byte 0x9F. -/
def execUnhandled9F (s : State) : Host.Outcome State Fault Refusal := unhandled 0x9F#8 s
/-- Byte 0xA3. -/
def execUnhandledA3 (s : State) : Host.Outcome State Fault Refusal := unhandled 0xA3#8 s
/-- Byte 0xA7. -/
def execUnhandledA7 (s : State) : Host.Outcome State Fault Refusal := unhandled 0xA7#8 s
/-- Byte 0xA8. -/
def execUnhandledA8 (s : State) : Host.Outcome State Fault Refusal := unhandled 0xA8#8 s
/-- Byte 0xAA. -/
def execUnhandledAA (s : State) : Host.Outcome State Fault Refusal := unhandled 0xAA#8 s
/-- Byte 0xAB. -/
def execUnhandledAB (s : State) : Host.Outcome State Fault Refusal := unhandled 0xAB#8 s
/-- Byte 0xAF. -/
def execUnhandledAF (s : State) : Host.Outcome State Fault Refusal := unhandled 0xAF#8 s
/-- Byte 0xB0. -/
def execUnhandledB0 (s : State) : Host.Outcome State Fault Refusal := unhandled 0xB0#8 s
/-- Byte 0xB2. -/
def execUnhandledB2 (s : State) : Host.Outcome State Fault Refusal := unhandled 0xB2#8 s
/-- Byte 0xB3. -/
def execUnhandledB3 (s : State) : Host.Outcome State Fault Refusal := unhandled 0xB3#8 s
/-- Byte 0xB7. -/
def execUnhandledB7 (s : State) : Host.Outcome State Fault Refusal := unhandled 0xB7#8 s
/-- Byte 0xB8. -/
def execUnhandledB8 (s : State) : Host.Outcome State Fault Refusal := unhandled 0xB8#8 s
/-- Byte 0xBA. -/
def execUnhandledBA (s : State) : Host.Outcome State Fault Refusal := unhandled 0xBA#8 s
/-- Byte 0xBB. -/
def execUnhandledBB (s : State) : Host.Outcome State Fault Refusal := unhandled 0xBB#8 s
/-- Byte 0xBF. -/
def execUnhandledBF (s : State) : Host.Outcome State Fault Refusal := unhandled 0xBF#8 s
/-- Byte 0xC0. -/
def execUnhandledC0 (s : State) : Host.Outcome State Fault Refusal := unhandled 0xC0#8 s
/-- Byte 0xC1. -/
def execUnhandledC1 (s : State) : Host.Outcome State Fault Refusal := unhandled 0xC1#8 s
/-- Byte 0xC2. -/
def execUnhandledC2 (s : State) : Host.Outcome State Fault Refusal := unhandled 0xC2#8 s
/-- Byte 0xC3. -/
def execUnhandledC3 (s : State) : Host.Outcome State Fault Refusal := unhandled 0xC3#8 s
/-- Byte 0xC4. -/
def execUnhandledC4 (s : State) : Host.Outcome State Fault Refusal := unhandled 0xC4#8 s
/-- Byte 0xC5. -/
def execUnhandledC5 (s : State) : Host.Outcome State Fault Refusal := unhandled 0xC5#8 s
/-- Byte 0xC6. -/
def execUnhandledC6 (s : State) : Host.Outcome State Fault Refusal := unhandled 0xC6#8 s
/-- Byte 0xC7. -/
def execUnhandledC7 (s : State) : Host.Outcome State Fault Refusal := unhandled 0xC7#8 s
/-- Byte 0xC8. -/
def execUnhandledC8 (s : State) : Host.Outcome State Fault Refusal := unhandled 0xC8#8 s
/-- Byte 0xC9. -/
def execUnhandledC9 (s : State) : Host.Outcome State Fault Refusal := unhandled 0xC9#8 s
/-- Byte 0xCA. -/
def execUnhandledCA (s : State) : Host.Outcome State Fault Refusal := unhandled 0xCA#8 s
/-- Byte 0xCB. -/
def execUnhandledCB (s : State) : Host.Outcome State Fault Refusal := unhandled 0xCB#8 s
/-- Byte 0xCC. -/
def execUnhandledCC (s : State) : Host.Outcome State Fault Refusal := unhandled 0xCC#8 s
/-- Byte 0xCD. -/
def execUnhandledCD (s : State) : Host.Outcome State Fault Refusal := unhandled 0xCD#8 s
/-- Byte 0xCE. -/
def execUnhandledCE (s : State) : Host.Outcome State Fault Refusal := unhandled 0xCE#8 s
/-- Byte 0xCF. -/
def execUnhandledCF (s : State) : Host.Outcome State Fault Refusal := unhandled 0xCF#8 s
/-- Byte 0xD0. -/
def execUnhandledD0 (s : State) : Host.Outcome State Fault Refusal := unhandled 0xD0#8 s
/-- Byte 0xD1. -/
def execUnhandledD1 (s : State) : Host.Outcome State Fault Refusal := unhandled 0xD1#8 s
/-- Byte 0xD2. -/
def execUnhandledD2 (s : State) : Host.Outcome State Fault Refusal := unhandled 0xD2#8 s
/-- Byte 0xD3. -/
def execUnhandledD3 (s : State) : Host.Outcome State Fault Refusal := unhandled 0xD3#8 s
/-- Byte 0xD4. -/
def execUnhandledD4 (s : State) : Host.Outcome State Fault Refusal := unhandled 0xD4#8 s
/-- Byte 0xD5. -/
def execUnhandledD5 (s : State) : Host.Outcome State Fault Refusal := unhandled 0xD5#8 s
/-- Byte 0xD6. -/
def execUnhandledD6 (s : State) : Host.Outcome State Fault Refusal := unhandled 0xD6#8 s
/-- Byte 0xD7. -/
def execUnhandledD7 (s : State) : Host.Outcome State Fault Refusal := unhandled 0xD7#8 s
/-- Byte 0xD8. -/
def execUnhandledD8 (s : State) : Host.Outcome State Fault Refusal := unhandled 0xD8#8 s
/-- Byte 0xD9. -/
def execUnhandledD9 (s : State) : Host.Outcome State Fault Refusal := unhandled 0xD9#8 s
/-- Byte 0xDA. -/
def execUnhandledDA (s : State) : Host.Outcome State Fault Refusal := unhandled 0xDA#8 s
/-- Byte 0xDB. -/
def execUnhandledDB (s : State) : Host.Outcome State Fault Refusal := unhandled 0xDB#8 s
/-- Byte 0xDC. -/
def execUnhandledDC (s : State) : Host.Outcome State Fault Refusal := unhandled 0xDC#8 s
/-- Byte 0xDD. -/
def execUnhandledDD (s : State) : Host.Outcome State Fault Refusal := unhandled 0xDD#8 s
/-- Byte 0xDE. -/
def execUnhandledDE (s : State) : Host.Outcome State Fault Refusal := unhandled 0xDE#8 s
/-- Byte 0xDF. -/
def execUnhandledDF (s : State) : Host.Outcome State Fault Refusal := unhandled 0xDF#8 s
/-- Byte 0xE0. -/
def execUnhandledE0 (s : State) : Host.Outcome State Fault Refusal := unhandled 0xE0#8 s
/-- Byte 0xE1. -/
def execUnhandledE1 (s : State) : Host.Outcome State Fault Refusal := unhandled 0xE1#8 s
/-- Byte 0xE2. -/
def execUnhandledE2 (s : State) : Host.Outcome State Fault Refusal := unhandled 0xE2#8 s
/-- Byte 0xE3. -/
def execUnhandledE3 (s : State) : Host.Outcome State Fault Refusal := unhandled 0xE3#8 s
/-- Byte 0xE4. -/
def execUnhandledE4 (s : State) : Host.Outcome State Fault Refusal := unhandled 0xE4#8 s
/-- Byte 0xE5. -/
def execUnhandledE5 (s : State) : Host.Outcome State Fault Refusal := unhandled 0xE5#8 s
/-- Byte 0xE6. -/
def execUnhandledE6 (s : State) : Host.Outcome State Fault Refusal := unhandled 0xE6#8 s
/-- Byte 0xE7. -/
def execUnhandledE7 (s : State) : Host.Outcome State Fault Refusal := unhandled 0xE7#8 s
/-- Byte 0xE8. -/
def execUnhandledE8 (s : State) : Host.Outcome State Fault Refusal := unhandled 0xE8#8 s
/-- Byte 0xE9. -/
def execUnhandledE9 (s : State) : Host.Outcome State Fault Refusal := unhandled 0xE9#8 s
/-- Byte 0xEA. -/
def execUnhandledEA (s : State) : Host.Outcome State Fault Refusal := unhandled 0xEA#8 s
/-- Byte 0xEB. -/
def execUnhandledEB (s : State) : Host.Outcome State Fault Refusal := unhandled 0xEB#8 s
/-- Byte 0xEC. -/
def execUnhandledEC (s : State) : Host.Outcome State Fault Refusal := unhandled 0xEC#8 s
/-- Byte 0xED. -/
def execUnhandledED (s : State) : Host.Outcome State Fault Refusal := unhandled 0xED#8 s
/-- Byte 0xEE. -/
def execUnhandledEE (s : State) : Host.Outcome State Fault Refusal := unhandled 0xEE#8 s
/-- Byte 0xEF. -/
def execUnhandledEF (s : State) : Host.Outcome State Fault Refusal := unhandled 0xEF#8 s
/-- Byte 0xF0. -/
def execUnhandledF0 (s : State) : Host.Outcome State Fault Refusal := unhandled 0xF0#8 s
/-- Byte 0xF1. -/
def execUnhandledF1 (s : State) : Host.Outcome State Fault Refusal := unhandled 0xF1#8 s
/-- Byte 0xF2. -/
def execUnhandledF2 (s : State) : Host.Outcome State Fault Refusal := unhandled 0xF2#8 s
/-- Byte 0xF3. -/
def execUnhandledF3 (s : State) : Host.Outcome State Fault Refusal := unhandled 0xF3#8 s
/-- Byte 0xF4. -/
def execUnhandledF4 (s : State) : Host.Outcome State Fault Refusal := unhandled 0xF4#8 s
/-- Byte 0xF5. -/
def execUnhandledF5 (s : State) : Host.Outcome State Fault Refusal := unhandled 0xF5#8 s
/-- Byte 0xF6. -/
def execUnhandledF6 (s : State) : Host.Outcome State Fault Refusal := unhandled 0xF6#8 s
/-- Byte 0xF7. -/
def execUnhandledF7 (s : State) : Host.Outcome State Fault Refusal := unhandled 0xF7#8 s
/-- Byte 0xF8. -/
def execUnhandledF8 (s : State) : Host.Outcome State Fault Refusal := unhandled 0xF8#8 s
/-- Byte 0xF9. -/
def execUnhandledF9 (s : State) : Host.Outcome State Fault Refusal := unhandled 0xF9#8 s
/-- Byte 0xFA. -/
def execUnhandledFA (s : State) : Host.Outcome State Fault Refusal := unhandled 0xFA#8 s
/-- Byte 0xFB. -/
def execUnhandledFB (s : State) : Host.Outcome State Fault Refusal := unhandled 0xFB#8 s
/-- Byte 0xFC. -/
def execUnhandledFC (s : State) : Host.Outcome State Fault Refusal := unhandled 0xFC#8 s
/-- Byte 0xFD. -/
def execUnhandledFD (s : State) : Host.Outcome State Fault Refusal := unhandled 0xFD#8 s
/-- Byte 0xFE. -/
def execUnhandledFE (s : State) : Host.Outcome State Fault Refusal := unhandled 0xFE#8 s
/-- Byte 0xFF. -/
def execUnhandledFF (s : State) : Host.Outcome State Fault Refusal := unhandled 0xFF#8 s

end Sys2Proof.Machine
end

