-- ==== Sys2Proof/Machine/Dispatch.lean ====
section
/-! DEFINITION. The dispatch of spec/70_reset_and_hazards.md R145: one arm per constructor of Instr. -/

namespace Sys2Proof.Machine

def exec (i : Instr) (s : State) : Host.Outcome State Fault Refusal :=
  match i with
  | .ldaImm d8 => Sys2Proof.Machine.execLdaImm d8 s
  | .ldaZp d8 => Sys2Proof.Machine.execLdaZp d8 s
  | .ldaZpX d8 => Sys2Proof.Machine.execLdaZpX d8 s
  | .ldaAbs addr => Sys2Proof.Machine.execLdaAbs addr s
  | .ldaAbsX base => Sys2Proof.Machine.execLdaAbsX base s
  | .ldaAbsY base => Sys2Proof.Machine.execLdaAbsY base s
  | .ldaIndX d8 => Sys2Proof.Machine.execLdaIndX d8 s
  | .ldaIndY d8 => Sys2Proof.Machine.execLdaIndY d8 s
  | .ldxImm d8 => Sys2Proof.Machine.execLdxImm d8 s
  | .ldxZp d8 => Sys2Proof.Machine.execLdxZp d8 s
  | .ldxZpY d8 => Sys2Proof.Machine.execLdxZpY d8 s
  | .ldxAbs addr => Sys2Proof.Machine.execLdxAbs addr s
  | .ldxAbsY base => Sys2Proof.Machine.execLdxAbsY base s
  | .ldyImm d8 => Sys2Proof.Machine.execLdyImm d8 s
  | .ldyZp d8 => Sys2Proof.Machine.execLdyZp d8 s
  | .ldyZpX d8 => Sys2Proof.Machine.execLdyZpX d8 s
  | .ldyAbs addr => Sys2Proof.Machine.execLdyAbs addr s
  | .ldyAbsX base => Sys2Proof.Machine.execLdyAbsX base s
  | .jmpAbs target => Sys2Proof.Machine.execJmpAbs target s
  | .jmpInd => Sys2Proof.Machine.execJmpInd s
  | .jsr target => Sys2Proof.Machine.execJsr target s
  | .unhandled00 => Sys2Proof.Machine.execUnhandled00 s
  | .unhandled01 => Sys2Proof.Machine.execUnhandled01 s
  | .unhandled02 => Sys2Proof.Machine.execUnhandled02 s
  | .unhandled03 => Sys2Proof.Machine.execUnhandled03 s
  | .unhandled04 => Sys2Proof.Machine.execUnhandled04 s
  | .unhandled05 => Sys2Proof.Machine.execUnhandled05 s
  | .unhandled06 => Sys2Proof.Machine.execUnhandled06 s
  | .unhandled07 => Sys2Proof.Machine.execUnhandled07 s
  | .unhandled08 => Sys2Proof.Machine.execUnhandled08 s
  | .unhandled09 => Sys2Proof.Machine.execUnhandled09 s
  | .unhandled0A => Sys2Proof.Machine.execUnhandled0A s
  | .unhandled0B => Sys2Proof.Machine.execUnhandled0B s
  | .unhandled0C => Sys2Proof.Machine.execUnhandled0C s
  | .unhandled0D => Sys2Proof.Machine.execUnhandled0D s
  | .unhandled0E => Sys2Proof.Machine.execUnhandled0E s
  | .unhandled0F => Sys2Proof.Machine.execUnhandled0F s
  | .unhandled10 => Sys2Proof.Machine.execUnhandled10 s
  | .unhandled11 => Sys2Proof.Machine.execUnhandled11 s
  | .unhandled12 => Sys2Proof.Machine.execUnhandled12 s
  | .unhandled13 => Sys2Proof.Machine.execUnhandled13 s
  | .unhandled14 => Sys2Proof.Machine.execUnhandled14 s
  | .unhandled15 => Sys2Proof.Machine.execUnhandled15 s
  | .unhandled16 => Sys2Proof.Machine.execUnhandled16 s
  | .unhandled17 => Sys2Proof.Machine.execUnhandled17 s
  | .unhandled18 => Sys2Proof.Machine.execUnhandled18 s
  | .unhandled19 => Sys2Proof.Machine.execUnhandled19 s
  | .unhandled1A => Sys2Proof.Machine.execUnhandled1A s
  | .unhandled1B => Sys2Proof.Machine.execUnhandled1B s
  | .unhandled1C => Sys2Proof.Machine.execUnhandled1C s
  | .unhandled1D => Sys2Proof.Machine.execUnhandled1D s
  | .unhandled1E => Sys2Proof.Machine.execUnhandled1E s
  | .unhandled1F => Sys2Proof.Machine.execUnhandled1F s
  | .unhandled21 => Sys2Proof.Machine.execUnhandled21 s
  | .unhandled22 => Sys2Proof.Machine.execUnhandled22 s
  | .unhandled23 => Sys2Proof.Machine.execUnhandled23 s
  | .unhandled24 => Sys2Proof.Machine.execUnhandled24 s
  | .unhandled25 => Sys2Proof.Machine.execUnhandled25 s
  | .unhandled26 => Sys2Proof.Machine.execUnhandled26 s
  | .unhandled27 => Sys2Proof.Machine.execUnhandled27 s
  | .unhandled28 => Sys2Proof.Machine.execUnhandled28 s
  | .unhandled29 => Sys2Proof.Machine.execUnhandled29 s
  | .unhandled2A => Sys2Proof.Machine.execUnhandled2A s
  | .unhandled2B => Sys2Proof.Machine.execUnhandled2B s
  | .unhandled2C => Sys2Proof.Machine.execUnhandled2C s
  | .unhandled2D => Sys2Proof.Machine.execUnhandled2D s
  | .unhandled2E => Sys2Proof.Machine.execUnhandled2E s
  | .unhandled2F => Sys2Proof.Machine.execUnhandled2F s
  | .unhandled30 => Sys2Proof.Machine.execUnhandled30 s
  | .unhandled31 => Sys2Proof.Machine.execUnhandled31 s
  | .unhandled32 => Sys2Proof.Machine.execUnhandled32 s
  | .unhandled33 => Sys2Proof.Machine.execUnhandled33 s
  | .unhandled34 => Sys2Proof.Machine.execUnhandled34 s
  | .unhandled35 => Sys2Proof.Machine.execUnhandled35 s
  | .unhandled36 => Sys2Proof.Machine.execUnhandled36 s
  | .unhandled37 => Sys2Proof.Machine.execUnhandled37 s
  | .unhandled38 => Sys2Proof.Machine.execUnhandled38 s
  | .unhandled39 => Sys2Proof.Machine.execUnhandled39 s
  | .unhandled3A => Sys2Proof.Machine.execUnhandled3A s
  | .unhandled3B => Sys2Proof.Machine.execUnhandled3B s
  | .unhandled3C => Sys2Proof.Machine.execUnhandled3C s
  | .unhandled3D => Sys2Proof.Machine.execUnhandled3D s
  | .unhandled3E => Sys2Proof.Machine.execUnhandled3E s
  | .unhandled3F => Sys2Proof.Machine.execUnhandled3F s
  | .unhandled40 => Sys2Proof.Machine.execUnhandled40 s
  | .unhandled41 => Sys2Proof.Machine.execUnhandled41 s
  | .unhandled42 => Sys2Proof.Machine.execUnhandled42 s
  | .unhandled43 => Sys2Proof.Machine.execUnhandled43 s
  | .unhandled44 => Sys2Proof.Machine.execUnhandled44 s
  | .unhandled45 => Sys2Proof.Machine.execUnhandled45 s
  | .unhandled46 => Sys2Proof.Machine.execUnhandled46 s
  | .unhandled47 => Sys2Proof.Machine.execUnhandled47 s
  | .unhandled48 => Sys2Proof.Machine.execUnhandled48 s
  | .unhandled49 => Sys2Proof.Machine.execUnhandled49 s
  | .unhandled4A => Sys2Proof.Machine.execUnhandled4A s
  | .unhandled4B => Sys2Proof.Machine.execUnhandled4B s
  | .unhandled4D => Sys2Proof.Machine.execUnhandled4D s
  | .unhandled4E => Sys2Proof.Machine.execUnhandled4E s
  | .unhandled4F => Sys2Proof.Machine.execUnhandled4F s
  | .unhandled50 => Sys2Proof.Machine.execUnhandled50 s
  | .unhandled51 => Sys2Proof.Machine.execUnhandled51 s
  | .unhandled52 => Sys2Proof.Machine.execUnhandled52 s
  | .unhandled53 => Sys2Proof.Machine.execUnhandled53 s
  | .unhandled54 => Sys2Proof.Machine.execUnhandled54 s
  | .unhandled55 => Sys2Proof.Machine.execUnhandled55 s
  | .unhandled56 => Sys2Proof.Machine.execUnhandled56 s
  | .unhandled57 => Sys2Proof.Machine.execUnhandled57 s
  | .unhandled58 => Sys2Proof.Machine.execUnhandled58 s
  | .unhandled59 => Sys2Proof.Machine.execUnhandled59 s
  | .unhandled5A => Sys2Proof.Machine.execUnhandled5A s
  | .unhandled5B => Sys2Proof.Machine.execUnhandled5B s
  | .unhandled5C => Sys2Proof.Machine.execUnhandled5C s
  | .unhandled5D => Sys2Proof.Machine.execUnhandled5D s
  | .unhandled5E => Sys2Proof.Machine.execUnhandled5E s
  | .unhandled5F => Sys2Proof.Machine.execUnhandled5F s
  | .unhandled60 => Sys2Proof.Machine.execUnhandled60 s
  | .unhandled61 => Sys2Proof.Machine.execUnhandled61 s
  | .unhandled62 => Sys2Proof.Machine.execUnhandled62 s
  | .unhandled63 => Sys2Proof.Machine.execUnhandled63 s
  | .unhandled64 => Sys2Proof.Machine.execUnhandled64 s
  | .unhandled65 => Sys2Proof.Machine.execUnhandled65 s
  | .unhandled66 => Sys2Proof.Machine.execUnhandled66 s
  | .unhandled67 => Sys2Proof.Machine.execUnhandled67 s
  | .unhandled68 => Sys2Proof.Machine.execUnhandled68 s
  | .unhandled69 => Sys2Proof.Machine.execUnhandled69 s
  | .unhandled6A => Sys2Proof.Machine.execUnhandled6A s
  | .unhandled6B => Sys2Proof.Machine.execUnhandled6B s
  | .unhandled6D => Sys2Proof.Machine.execUnhandled6D s
  | .unhandled6E => Sys2Proof.Machine.execUnhandled6E s
  | .unhandled6F => Sys2Proof.Machine.execUnhandled6F s
  | .unhandled70 => Sys2Proof.Machine.execUnhandled70 s
  | .unhandled71 => Sys2Proof.Machine.execUnhandled71 s
  | .unhandled72 => Sys2Proof.Machine.execUnhandled72 s
  | .unhandled73 => Sys2Proof.Machine.execUnhandled73 s
  | .unhandled74 => Sys2Proof.Machine.execUnhandled74 s
  | .unhandled75 => Sys2Proof.Machine.execUnhandled75 s
  | .unhandled76 => Sys2Proof.Machine.execUnhandled76 s
  | .unhandled77 => Sys2Proof.Machine.execUnhandled77 s
  | .unhandled78 => Sys2Proof.Machine.execUnhandled78 s
  | .unhandled79 => Sys2Proof.Machine.execUnhandled79 s
  | .unhandled7A => Sys2Proof.Machine.execUnhandled7A s
  | .unhandled7B => Sys2Proof.Machine.execUnhandled7B s
  | .unhandled7C => Sys2Proof.Machine.execUnhandled7C s
  | .unhandled7D => Sys2Proof.Machine.execUnhandled7D s
  | .unhandled7E => Sys2Proof.Machine.execUnhandled7E s
  | .unhandled7F => Sys2Proof.Machine.execUnhandled7F s
  | .unhandled80 => Sys2Proof.Machine.execUnhandled80 s
  | .unhandled81 => Sys2Proof.Machine.execUnhandled81 s
  | .unhandled82 => Sys2Proof.Machine.execUnhandled82 s
  | .unhandled83 => Sys2Proof.Machine.execUnhandled83 s
  | .unhandled84 => Sys2Proof.Machine.execUnhandled84 s
  | .unhandled85 => Sys2Proof.Machine.execUnhandled85 s
  | .unhandled86 => Sys2Proof.Machine.execUnhandled86 s
  | .unhandled87 => Sys2Proof.Machine.execUnhandled87 s
  | .unhandled88 => Sys2Proof.Machine.execUnhandled88 s
  | .unhandled89 => Sys2Proof.Machine.execUnhandled89 s
  | .unhandled8A => Sys2Proof.Machine.execUnhandled8A s
  | .unhandled8B => Sys2Proof.Machine.execUnhandled8B s
  | .unhandled8C => Sys2Proof.Machine.execUnhandled8C s
  | .unhandled8D => Sys2Proof.Machine.execUnhandled8D s
  | .unhandled8E => Sys2Proof.Machine.execUnhandled8E s
  | .unhandled8F => Sys2Proof.Machine.execUnhandled8F s
  | .unhandled90 => Sys2Proof.Machine.execUnhandled90 s
  | .unhandled91 => Sys2Proof.Machine.execUnhandled91 s
  | .unhandled92 => Sys2Proof.Machine.execUnhandled92 s
  | .unhandled93 => Sys2Proof.Machine.execUnhandled93 s
  | .unhandled94 => Sys2Proof.Machine.execUnhandled94 s
  | .unhandled95 => Sys2Proof.Machine.execUnhandled95 s
  | .unhandled96 => Sys2Proof.Machine.execUnhandled96 s
  | .unhandled97 => Sys2Proof.Machine.execUnhandled97 s
  | .unhandled98 => Sys2Proof.Machine.execUnhandled98 s
  | .unhandled99 => Sys2Proof.Machine.execUnhandled99 s
  | .unhandled9A => Sys2Proof.Machine.execUnhandled9A s
  | .unhandled9B => Sys2Proof.Machine.execUnhandled9B s
  | .unhandled9C => Sys2Proof.Machine.execUnhandled9C s
  | .unhandled9D => Sys2Proof.Machine.execUnhandled9D s
  | .unhandled9E => Sys2Proof.Machine.execUnhandled9E s
  | .unhandled9F => Sys2Proof.Machine.execUnhandled9F s
  | .unhandledA3 => Sys2Proof.Machine.execUnhandledA3 s
  | .unhandledA7 => Sys2Proof.Machine.execUnhandledA7 s
  | .unhandledA8 => Sys2Proof.Machine.execUnhandledA8 s
  | .unhandledAA => Sys2Proof.Machine.execUnhandledAA s
  | .unhandledAB => Sys2Proof.Machine.execUnhandledAB s
  | .unhandledAF => Sys2Proof.Machine.execUnhandledAF s
  | .unhandledB0 => Sys2Proof.Machine.execUnhandledB0 s
  | .unhandledB2 => Sys2Proof.Machine.execUnhandledB2 s
  | .unhandledB3 => Sys2Proof.Machine.execUnhandledB3 s
  | .unhandledB7 => Sys2Proof.Machine.execUnhandledB7 s
  | .unhandledB8 => Sys2Proof.Machine.execUnhandledB8 s
  | .unhandledBA => Sys2Proof.Machine.execUnhandledBA s
  | .unhandledBB => Sys2Proof.Machine.execUnhandledBB s
  | .unhandledBF => Sys2Proof.Machine.execUnhandledBF s
  | .unhandledC0 => Sys2Proof.Machine.execUnhandledC0 s
  | .unhandledC1 => Sys2Proof.Machine.execUnhandledC1 s
  | .unhandledC2 => Sys2Proof.Machine.execUnhandledC2 s
  | .unhandledC3 => Sys2Proof.Machine.execUnhandledC3 s
  | .unhandledC4 => Sys2Proof.Machine.execUnhandledC4 s
  | .unhandledC5 => Sys2Proof.Machine.execUnhandledC5 s
  | .unhandledC6 => Sys2Proof.Machine.execUnhandledC6 s
  | .unhandledC7 => Sys2Proof.Machine.execUnhandledC7 s
  | .unhandledC8 => Sys2Proof.Machine.execUnhandledC8 s
  | .unhandledC9 => Sys2Proof.Machine.execUnhandledC9 s
  | .unhandledCA => Sys2Proof.Machine.execUnhandledCA s
  | .unhandledCB => Sys2Proof.Machine.execUnhandledCB s
  | .unhandledCC => Sys2Proof.Machine.execUnhandledCC s
  | .unhandledCD => Sys2Proof.Machine.execUnhandledCD s
  | .unhandledCE => Sys2Proof.Machine.execUnhandledCE s
  | .unhandledCF => Sys2Proof.Machine.execUnhandledCF s
  | .unhandledD0 => Sys2Proof.Machine.execUnhandledD0 s
  | .unhandledD1 => Sys2Proof.Machine.execUnhandledD1 s
  | .unhandledD2 => Sys2Proof.Machine.execUnhandledD2 s
  | .unhandledD3 => Sys2Proof.Machine.execUnhandledD3 s
  | .unhandledD4 => Sys2Proof.Machine.execUnhandledD4 s
  | .unhandledD5 => Sys2Proof.Machine.execUnhandledD5 s
  | .unhandledD6 => Sys2Proof.Machine.execUnhandledD6 s
  | .unhandledD7 => Sys2Proof.Machine.execUnhandledD7 s
  | .unhandledD8 => Sys2Proof.Machine.execUnhandledD8 s
  | .unhandledD9 => Sys2Proof.Machine.execUnhandledD9 s
  | .unhandledDA => Sys2Proof.Machine.execUnhandledDA s
  | .unhandledDB => Sys2Proof.Machine.execUnhandledDB s
  | .unhandledDC => Sys2Proof.Machine.execUnhandledDC s
  | .unhandledDD => Sys2Proof.Machine.execUnhandledDD s
  | .unhandledDE => Sys2Proof.Machine.execUnhandledDE s
  | .unhandledDF => Sys2Proof.Machine.execUnhandledDF s
  | .unhandledE0 => Sys2Proof.Machine.execUnhandledE0 s
  | .unhandledE1 => Sys2Proof.Machine.execUnhandledE1 s
  | .unhandledE2 => Sys2Proof.Machine.execUnhandledE2 s
  | .unhandledE3 => Sys2Proof.Machine.execUnhandledE3 s
  | .unhandledE4 => Sys2Proof.Machine.execUnhandledE4 s
  | .unhandledE5 => Sys2Proof.Machine.execUnhandledE5 s
  | .unhandledE6 => Sys2Proof.Machine.execUnhandledE6 s
  | .unhandledE7 => Sys2Proof.Machine.execUnhandledE7 s
  | .unhandledE8 => Sys2Proof.Machine.execUnhandledE8 s
  | .unhandledE9 => Sys2Proof.Machine.execUnhandledE9 s
  | .unhandledEA => Sys2Proof.Machine.execUnhandledEA s
  | .unhandledEB => Sys2Proof.Machine.execUnhandledEB s
  | .unhandledEC => Sys2Proof.Machine.execUnhandledEC s
  | .unhandledED => Sys2Proof.Machine.execUnhandledED s
  | .unhandledEE => Sys2Proof.Machine.execUnhandledEE s
  | .unhandledEF => Sys2Proof.Machine.execUnhandledEF s
  | .unhandledF0 => Sys2Proof.Machine.execUnhandledF0 s
  | .unhandledF1 => Sys2Proof.Machine.execUnhandledF1 s
  | .unhandledF2 => Sys2Proof.Machine.execUnhandledF2 s
  | .unhandledF3 => Sys2Proof.Machine.execUnhandledF3 s
  | .unhandledF4 => Sys2Proof.Machine.execUnhandledF4 s
  | .unhandledF5 => Sys2Proof.Machine.execUnhandledF5 s
  | .unhandledF6 => Sys2Proof.Machine.execUnhandledF6 s
  | .unhandledF7 => Sys2Proof.Machine.execUnhandledF7 s
  | .unhandledF8 => Sys2Proof.Machine.execUnhandledF8 s
  | .unhandledF9 => Sys2Proof.Machine.execUnhandledF9 s
  | .unhandledFA => Sys2Proof.Machine.execUnhandledFA s
  | .unhandledFB => Sys2Proof.Machine.execUnhandledFB s
  | .unhandledFC => Sys2Proof.Machine.execUnhandledFC s
  | .unhandledFD => Sys2Proof.Machine.execUnhandledFD s
  | .unhandledFE => Sys2Proof.Machine.execUnhandledFE s
  | .unhandledFF => Sys2Proof.Machine.execUnhandledFF s

end Sys2Proof.Machine
end

