-- ==== Sys2Proof/WellFormed.lean ====
section
/-! DEFINITION. What makes a table entry, and so an instruction, well formed (spec/30_encoding.md R52, R54;
spec/10_state.md R10). Every operand field of `Instr` has exactly the width its format gives it (R51), so no check on
operand values is left: the checks are on the entry the instruction comes from. -/

namespace Sys2Proof

/-- R52: a base cost is 1, 2, 3, 4, 5 or 6. -/
def OpInfo.costInRange (e : OpInfo) : Bool := 1 ≤ e.baseCycles && e.baseCycles ≤ 6

/-- R52: the page-cross penalty applies for ABSX, ABSY and INDY, and for no other mode. -/
def OpInfo.penaltyFits (e : OpInfo) : Bool :=
  e.pageCross == (e.mode == .absx || e.mode == .absy || e.mode == .indy)

/-- R52, R54: a jump, a call and the placeholder have a tag of their own; a load has one of the nine data modes. -/
def OpInfo.modeFits (e : OpInfo) : Bool :=
  match e.op with
  | .load _ => e.mode != .jmpabs && e.mode != .jsrabs && e.mode != .none
  | .jump => e.mode == .jmpabs
  | .call => e.mode == .jsrabs
  | .nothing => e.mode == .none

/-- spec/10_state.md R10: no load indexes by the register it writes; R54: only LDA has the indirect modes. -/
def OpInfo.indexFits (e : OpInfo) : Bool :=
  match e.op with
  | .load .x => e.mode != .zpx && e.mode != .absx && e.mode != .indx && e.mode != .indy
  | .load .y => e.mode != .zpy && e.mode != .absy && e.mode != .indx && e.mode != .indy
  | .load .a => e.mode != .zpy
  | _ => true

/-- All four checks. -/
def OpInfo.wellFormed (e : OpInfo) : Bool :=
  e.costInRange && e.penaltyFits && e.modeFits && e.indexFits

/-- An unhandled entry has no field to check. -/
def OpEntry.wellFormed : OpEntry → Bool
  | .handled e => e.wellFormed
  | .unhandled => true

/-- An instruction is well formed when the table entry it comes from is. -/
def Instr.wellFormed (i : Instr) : Bool := i.entry.wellFormed

end Sys2Proof
end

