-- ==== Sys2Proof/Decode.lean ====
section
/-! DEFINITION. The decoder and the encoder (spec/30_encoding.md R50 to R57). Decoding looks at the whole opcode byte
and at nothing else (R50, R61); the formats F1, F2 and F3 are one, two and three bytes (R51). -/

namespace Sys2Proof

/-- What an opcode byte asks for: nothing (F1), one operand byte (F2), or two, low byte first (F3) (R51). -/
inductive Shape where
  | f1 (i : Instr)
  | f2 (mk : Byte → Instr)
  | f3 (mk : Word → Instr)

/-- The number of bytes of the format (R51). -/
def Shape.length : Shape → Nat
  | .f1 _ => 1
  | .f2 _ => 2
  | .f3 _ => 3

/-- Why a list of bytes is no instruction. Memory never gives such a list: it has a byte at every address. -/
inductive DecodeError where
  /-- The list is empty. -/
  | noOpcode
  /-- The list ends before the operand bytes of this opcode. -/
  | missingOperand (op : Byte)
  deriving DecidableEq, Repr

/-- Opcode bytes 0x00 to 0x0F (R54, R56). -/
def shapes0 : List Shape :=
  [.f1 .unhandled00, .f1 .unhandled01, .f1 .unhandled02, .f1 .unhandled03,
   .f1 .unhandled04, .f1 .unhandled05, .f1 .unhandled06, .f1 .unhandled07,
   .f1 .unhandled08, .f1 .unhandled09, .f1 .unhandled0A, .f1 .unhandled0B,
   .f1 .unhandled0C, .f1 .unhandled0D, .f1 .unhandled0E, .f1 .unhandled0F]

/-- Opcode bytes 0x10 to 0x1F (R54, R56). -/
def shapes1 : List Shape :=
  [.f1 .unhandled10, .f1 .unhandled11, .f1 .unhandled12, .f1 .unhandled13,
   .f1 .unhandled14, .f1 .unhandled15, .f1 .unhandled16, .f1 .unhandled17,
   .f1 .unhandled18, .f1 .unhandled19, .f1 .unhandled1A, .f1 .unhandled1B,
   .f1 .unhandled1C, .f1 .unhandled1D, .f1 .unhandled1E, .f1 .unhandled1F]

/-- Opcode bytes 0x20 to 0x2F (R54, R56). -/
def shapes2 : List Shape :=
  [.f3 .jsr, .f1 .unhandled21, .f1 .unhandled22, .f1 .unhandled23,
   .f1 .unhandled24, .f1 .unhandled25, .f1 .unhandled26, .f1 .unhandled27,
   .f1 .unhandled28, .f1 .unhandled29, .f1 .unhandled2A, .f1 .unhandled2B,
   .f1 .unhandled2C, .f1 .unhandled2D, .f1 .unhandled2E, .f1 .unhandled2F]

/-- Opcode bytes 0x30 to 0x3F (R54, R56). -/
def shapes3 : List Shape :=
  [.f1 .unhandled30, .f1 .unhandled31, .f1 .unhandled32, .f1 .unhandled33,
   .f1 .unhandled34, .f1 .unhandled35, .f1 .unhandled36, .f1 .unhandled37,
   .f1 .unhandled38, .f1 .unhandled39, .f1 .unhandled3A, .f1 .unhandled3B,
   .f1 .unhandled3C, .f1 .unhandled3D, .f1 .unhandled3E, .f1 .unhandled3F]

/-- Opcode bytes 0x40 to 0x4F (R54, R56). -/
def shapes4 : List Shape :=
  [.f1 .unhandled40, .f1 .unhandled41, .f1 .unhandled42, .f1 .unhandled43,
   .f1 .unhandled44, .f1 .unhandled45, .f1 .unhandled46, .f1 .unhandled47,
   .f1 .unhandled48, .f1 .unhandled49, .f1 .unhandled4A, .f1 .unhandled4B,
   .f3 .jmpAbs, .f1 .unhandled4D, .f1 .unhandled4E, .f1 .unhandled4F]

/-- Opcode bytes 0x50 to 0x5F (R54, R56). -/
def shapes5 : List Shape :=
  [.f1 .unhandled50, .f1 .unhandled51, .f1 .unhandled52, .f1 .unhandled53,
   .f1 .unhandled54, .f1 .unhandled55, .f1 .unhandled56, .f1 .unhandled57,
   .f1 .unhandled58, .f1 .unhandled59, .f1 .unhandled5A, .f1 .unhandled5B,
   .f1 .unhandled5C, .f1 .unhandled5D, .f1 .unhandled5E, .f1 .unhandled5F]

/-- Opcode bytes 0x60 to 0x6F (R54, R56). -/
def shapes6 : List Shape :=
  [.f1 .unhandled60, .f1 .unhandled61, .f1 .unhandled62, .f1 .unhandled63,
   .f1 .unhandled64, .f1 .unhandled65, .f1 .unhandled66, .f1 .unhandled67,
   .f1 .unhandled68, .f1 .unhandled69, .f1 .unhandled6A, .f1 .unhandled6B,
   .f1 .jmpInd, .f1 .unhandled6D, .f1 .unhandled6E, .f1 .unhandled6F]

/-- Opcode bytes 0x70 to 0x7F (R54, R56). -/
def shapes7 : List Shape :=
  [.f1 .unhandled70, .f1 .unhandled71, .f1 .unhandled72, .f1 .unhandled73,
   .f1 .unhandled74, .f1 .unhandled75, .f1 .unhandled76, .f1 .unhandled77,
   .f1 .unhandled78, .f1 .unhandled79, .f1 .unhandled7A, .f1 .unhandled7B,
   .f1 .unhandled7C, .f1 .unhandled7D, .f1 .unhandled7E, .f1 .unhandled7F]

/-- Opcode bytes 0x80 to 0x8F (R54, R56). -/
def shapes8 : List Shape :=
  [.f1 .unhandled80, .f1 .unhandled81, .f1 .unhandled82, .f1 .unhandled83,
   .f1 .unhandled84, .f1 .unhandled85, .f1 .unhandled86, .f1 .unhandled87,
   .f1 .unhandled88, .f1 .unhandled89, .f1 .unhandled8A, .f1 .unhandled8B,
   .f1 .unhandled8C, .f1 .unhandled8D, .f1 .unhandled8E, .f1 .unhandled8F]

/-- Opcode bytes 0x90 to 0x9F (R54, R56). -/
def shapes9 : List Shape :=
  [.f1 .unhandled90, .f1 .unhandled91, .f1 .unhandled92, .f1 .unhandled93,
   .f1 .unhandled94, .f1 .unhandled95, .f1 .unhandled96, .f1 .unhandled97,
   .f1 .unhandled98, .f1 .unhandled99, .f1 .unhandled9A, .f1 .unhandled9B,
   .f1 .unhandled9C, .f1 .unhandled9D, .f1 .unhandled9E, .f1 .unhandled9F]

/-- Opcode bytes 0xA0 to 0xAF (R54, R56). -/
def shapesA : List Shape :=
  [.f2 .ldyImm, .f2 .ldaIndX, .f2 .ldxImm, .f1 .unhandledA3,
   .f2 .ldyZp, .f2 .ldaZp, .f2 .ldxZp, .f1 .unhandledA7,
   .f1 .unhandledA8, .f2 .ldaImm, .f1 .unhandledAA, .f1 .unhandledAB,
   .f3 .ldyAbs, .f3 .ldaAbs, .f3 .ldxAbs, .f1 .unhandledAF]

/-- Opcode bytes 0xB0 to 0xBF (R54, R56). -/
def shapesB : List Shape :=
  [.f1 .unhandledB0, .f2 .ldaIndY, .f1 .unhandledB2, .f1 .unhandledB3,
   .f2 .ldyZpX, .f2 .ldaZpX, .f2 .ldxZpY, .f1 .unhandledB7,
   .f1 .unhandledB8, .f3 .ldaAbsY, .f1 .unhandledBA, .f1 .unhandledBB,
   .f3 .ldyAbsX, .f3 .ldaAbsX, .f3 .ldxAbsY, .f1 .unhandledBF]

/-- Opcode bytes 0xC0 to 0xCF (R54, R56). -/
def shapesC : List Shape :=
  [.f1 .unhandledC0, .f1 .unhandledC1, .f1 .unhandledC2, .f1 .unhandledC3,
   .f1 .unhandledC4, .f1 .unhandledC5, .f1 .unhandledC6, .f1 .unhandledC7,
   .f1 .unhandledC8, .f1 .unhandledC9, .f1 .unhandledCA, .f1 .unhandledCB,
   .f1 .unhandledCC, .f1 .unhandledCD, .f1 .unhandledCE, .f1 .unhandledCF]

/-- Opcode bytes 0xD0 to 0xDF (R54, R56). -/
def shapesD : List Shape :=
  [.f1 .unhandledD0, .f1 .unhandledD1, .f1 .unhandledD2, .f1 .unhandledD3,
   .f1 .unhandledD4, .f1 .unhandledD5, .f1 .unhandledD6, .f1 .unhandledD7,
   .f1 .unhandledD8, .f1 .unhandledD9, .f1 .unhandledDA, .f1 .unhandledDB,
   .f1 .unhandledDC, .f1 .unhandledDD, .f1 .unhandledDE, .f1 .unhandledDF]

/-- Opcode bytes 0xE0 to 0xEF (R54, R56). -/
def shapesE : List Shape :=
  [.f1 .unhandledE0, .f1 .unhandledE1, .f1 .unhandledE2, .f1 .unhandledE3,
   .f1 .unhandledE4, .f1 .unhandledE5, .f1 .unhandledE6, .f1 .unhandledE7,
   .f1 .unhandledE8, .f1 .unhandledE9, .f1 .unhandledEA, .f1 .unhandledEB,
   .f1 .unhandledEC, .f1 .unhandledED, .f1 .unhandledEE, .f1 .unhandledEF]

/-- Opcode bytes 0xF0 to 0xFF (R54, R56). -/
def shapesF : List Shape :=
  [.f1 .unhandledF0, .f1 .unhandledF1, .f1 .unhandledF2, .f1 .unhandledF3,
   .f1 .unhandledF4, .f1 .unhandledF5, .f1 .unhandledF6, .f1 .unhandledF7,
   .f1 .unhandledF8, .f1 .unhandledF9, .f1 .unhandledFA, .f1 .unhandledFB,
   .f1 .unhandledFC, .f1 .unhandledFD, .f1 .unhandledFE, .f1 .unhandledFF]

/-- The 256-entry table indexed by the opcode byte (R52, R54): sixteen rows by high nibble, sixteen entries by low. -/
def shapeTable : List (List Shape) :=
  [shapes0, shapes1, shapes2, shapes3, shapes4, shapes5, shapes6, shapes7,
   shapes8, shapes9, shapesA, shapesB, shapesC, shapesD, shapesE, shapesF]

/-- No entry is missing and none is too many. -/
theorem shapeTable_row_length : ∀ row : Fin 16, (shapeTable[row.val]'(row.isLt)).length = 16 := by decide

/-- The table's entry of an opcode byte. -/
def shapeOf (op : Byte) : Shape :=
  have row : op.toNat / 16 < 16 := by have := op.isLt; omega
  (shapeTable[op.toNat / 16]'row)[op.toNat % 16]'(by rw [shapeTable_row_length ⟨_, row⟩]; omega)

/-- The instruction of an opcode byte and the two bytes after it, of which it uses as many as its format has (R55). -/
def decodeAt (op b1 b2 : Byte) : Instr :=
  match shapeOf op with
  | .f1 i => i
  | .f2 mk => mk b1
  | .f3 mk => mk (Machine.effAddr b1 b2)

/-- The instruction at the head of a list of bytes and the bytes after it. Total: every opcode byte decodes, and a list
that ends too early is rejected by name. -/
def decode (bytes : List Byte) : Except DecodeError (Instr × List Byte) :=
  match bytes with
  | [] => .error .noOpcode
  | op :: rest =>
    match shapeOf op, rest with
    | .f1 i, _ => .ok (i, rest)
    | .f2 mk, d8 :: rest' => .ok (mk d8, rest')
    | .f3 mk, lo :: hi :: rest' => .ok (mk (Machine.effAddr lo hi), rest')
    | _, _ => .error (.missingOperand op)

/-- The opcode byte of an instruction (R54, R56). -/
def Instr.opcode : Instr → Byte
  | .ldaImm _ => 0xA9#8
  | .ldaZp _ => 0xA5#8
  | .ldaZpX _ => 0xB5#8
  | .ldaAbs _ => 0xAD#8
  | .ldaAbsX _ => 0xBD#8
  | .ldaAbsY _ => 0xB9#8
  | .ldaIndX _ => 0xA1#8
  | .ldaIndY _ => 0xB1#8
  | .ldxImm _ => 0xA2#8
  | .ldxZp _ => 0xA6#8
  | .ldxZpY _ => 0xB6#8
  | .ldxAbs _ => 0xAE#8
  | .ldxAbsY _ => 0xBE#8
  | .ldyImm _ => 0xA0#8
  | .ldyZp _ => 0xA4#8
  | .ldyZpX _ => 0xB4#8
  | .ldyAbs _ => 0xAC#8
  | .ldyAbsX _ => 0xBC#8
  | .jmpAbs _ => 0x4C#8
  | .jmpInd => 0x6C#8
  | .jsr _ => 0x20#8
  | .unhandled00 => 0x00#8
  | .unhandled01 => 0x01#8
  | .unhandled02 => 0x02#8
  | .unhandled03 => 0x03#8
  | .unhandled04 => 0x04#8
  | .unhandled05 => 0x05#8
  | .unhandled06 => 0x06#8
  | .unhandled07 => 0x07#8
  | .unhandled08 => 0x08#8
  | .unhandled09 => 0x09#8
  | .unhandled0A => 0x0A#8
  | .unhandled0B => 0x0B#8
  | .unhandled0C => 0x0C#8
  | .unhandled0D => 0x0D#8
  | .unhandled0E => 0x0E#8
  | .unhandled0F => 0x0F#8
  | .unhandled10 => 0x10#8
  | .unhandled11 => 0x11#8
  | .unhandled12 => 0x12#8
  | .unhandled13 => 0x13#8
  | .unhandled14 => 0x14#8
  | .unhandled15 => 0x15#8
  | .unhandled16 => 0x16#8
  | .unhandled17 => 0x17#8
  | .unhandled18 => 0x18#8
  | .unhandled19 => 0x19#8
  | .unhandled1A => 0x1A#8
  | .unhandled1B => 0x1B#8
  | .unhandled1C => 0x1C#8
  | .unhandled1D => 0x1D#8
  | .unhandled1E => 0x1E#8
  | .unhandled1F => 0x1F#8
  | .unhandled21 => 0x21#8
  | .unhandled22 => 0x22#8
  | .unhandled23 => 0x23#8
  | .unhandled24 => 0x24#8
  | .unhandled25 => 0x25#8
  | .unhandled26 => 0x26#8
  | .unhandled27 => 0x27#8
  | .unhandled28 => 0x28#8
  | .unhandled29 => 0x29#8
  | .unhandled2A => 0x2A#8
  | .unhandled2B => 0x2B#8
  | .unhandled2C => 0x2C#8
  | .unhandled2D => 0x2D#8
  | .unhandled2E => 0x2E#8
  | .unhandled2F => 0x2F#8
  | .unhandled30 => 0x30#8
  | .unhandled31 => 0x31#8
  | .unhandled32 => 0x32#8
  | .unhandled33 => 0x33#8
  | .unhandled34 => 0x34#8
  | .unhandled35 => 0x35#8
  | .unhandled36 => 0x36#8
  | .unhandled37 => 0x37#8
  | .unhandled38 => 0x38#8
  | .unhandled39 => 0x39#8
  | .unhandled3A => 0x3A#8
  | .unhandled3B => 0x3B#8
  | .unhandled3C => 0x3C#8
  | .unhandled3D => 0x3D#8
  | .unhandled3E => 0x3E#8
  | .unhandled3F => 0x3F#8
  | .unhandled40 => 0x40#8
  | .unhandled41 => 0x41#8
  | .unhandled42 => 0x42#8
  | .unhandled43 => 0x43#8
  | .unhandled44 => 0x44#8
  | .unhandled45 => 0x45#8
  | .unhandled46 => 0x46#8
  | .unhandled47 => 0x47#8
  | .unhandled48 => 0x48#8
  | .unhandled49 => 0x49#8
  | .unhandled4A => 0x4A#8
  | .unhandled4B => 0x4B#8
  | .unhandled4D => 0x4D#8
  | .unhandled4E => 0x4E#8
  | .unhandled4F => 0x4F#8
  | .unhandled50 => 0x50#8
  | .unhandled51 => 0x51#8
  | .unhandled52 => 0x52#8
  | .unhandled53 => 0x53#8
  | .unhandled54 => 0x54#8
  | .unhandled55 => 0x55#8
  | .unhandled56 => 0x56#8
  | .unhandled57 => 0x57#8
  | .unhandled58 => 0x58#8
  | .unhandled59 => 0x59#8
  | .unhandled5A => 0x5A#8
  | .unhandled5B => 0x5B#8
  | .unhandled5C => 0x5C#8
  | .unhandled5D => 0x5D#8
  | .unhandled5E => 0x5E#8
  | .unhandled5F => 0x5F#8
  | .unhandled60 => 0x60#8
  | .unhandled61 => 0x61#8
  | .unhandled62 => 0x62#8
  | .unhandled63 => 0x63#8
  | .unhandled64 => 0x64#8
  | .unhandled65 => 0x65#8
  | .unhandled66 => 0x66#8
  | .unhandled67 => 0x67#8
  | .unhandled68 => 0x68#8
  | .unhandled69 => 0x69#8
  | .unhandled6A => 0x6A#8
  | .unhandled6B => 0x6B#8
  | .unhandled6D => 0x6D#8
  | .unhandled6E => 0x6E#8
  | .unhandled6F => 0x6F#8
  | .unhandled70 => 0x70#8
  | .unhandled71 => 0x71#8
  | .unhandled72 => 0x72#8
  | .unhandled73 => 0x73#8
  | .unhandled74 => 0x74#8
  | .unhandled75 => 0x75#8
  | .unhandled76 => 0x76#8
  | .unhandled77 => 0x77#8
  | .unhandled78 => 0x78#8
  | .unhandled79 => 0x79#8
  | .unhandled7A => 0x7A#8
  | .unhandled7B => 0x7B#8
  | .unhandled7C => 0x7C#8
  | .unhandled7D => 0x7D#8
  | .unhandled7E => 0x7E#8
  | .unhandled7F => 0x7F#8
  | .unhandled80 => 0x80#8
  | .unhandled81 => 0x81#8
  | .unhandled82 => 0x82#8
  | .unhandled83 => 0x83#8
  | .unhandled84 => 0x84#8
  | .unhandled85 => 0x85#8
  | .unhandled86 => 0x86#8
  | .unhandled87 => 0x87#8
  | .unhandled88 => 0x88#8
  | .unhandled89 => 0x89#8
  | .unhandled8A => 0x8A#8
  | .unhandled8B => 0x8B#8
  | .unhandled8C => 0x8C#8
  | .unhandled8D => 0x8D#8
  | .unhandled8E => 0x8E#8
  | .unhandled8F => 0x8F#8
  | .unhandled90 => 0x90#8
  | .unhandled91 => 0x91#8
  | .unhandled92 => 0x92#8
  | .unhandled93 => 0x93#8
  | .unhandled94 => 0x94#8
  | .unhandled95 => 0x95#8
  | .unhandled96 => 0x96#8
  | .unhandled97 => 0x97#8
  | .unhandled98 => 0x98#8
  | .unhandled99 => 0x99#8
  | .unhandled9A => 0x9A#8
  | .unhandled9B => 0x9B#8
  | .unhandled9C => 0x9C#8
  | .unhandled9D => 0x9D#8
  | .unhandled9E => 0x9E#8
  | .unhandled9F => 0x9F#8
  | .unhandledA3 => 0xA3#8
  | .unhandledA7 => 0xA7#8
  | .unhandledA8 => 0xA8#8
  | .unhandledAA => 0xAA#8
  | .unhandledAB => 0xAB#8
  | .unhandledAF => 0xAF#8
  | .unhandledB0 => 0xB0#8
  | .unhandledB2 => 0xB2#8
  | .unhandledB3 => 0xB3#8
  | .unhandledB7 => 0xB7#8
  | .unhandledB8 => 0xB8#8
  | .unhandledBA => 0xBA#8
  | .unhandledBB => 0xBB#8
  | .unhandledBF => 0xBF#8
  | .unhandledC0 => 0xC0#8
  | .unhandledC1 => 0xC1#8
  | .unhandledC2 => 0xC2#8
  | .unhandledC3 => 0xC3#8
  | .unhandledC4 => 0xC4#8
  | .unhandledC5 => 0xC5#8
  | .unhandledC6 => 0xC6#8
  | .unhandledC7 => 0xC7#8
  | .unhandledC8 => 0xC8#8
  | .unhandledC9 => 0xC9#8
  | .unhandledCA => 0xCA#8
  | .unhandledCB => 0xCB#8
  | .unhandledCC => 0xCC#8
  | .unhandledCD => 0xCD#8
  | .unhandledCE => 0xCE#8
  | .unhandledCF => 0xCF#8
  | .unhandledD0 => 0xD0#8
  | .unhandledD1 => 0xD1#8
  | .unhandledD2 => 0xD2#8
  | .unhandledD3 => 0xD3#8
  | .unhandledD4 => 0xD4#8
  | .unhandledD5 => 0xD5#8
  | .unhandledD6 => 0xD6#8
  | .unhandledD7 => 0xD7#8
  | .unhandledD8 => 0xD8#8
  | .unhandledD9 => 0xD9#8
  | .unhandledDA => 0xDA#8
  | .unhandledDB => 0xDB#8
  | .unhandledDC => 0xDC#8
  | .unhandledDD => 0xDD#8
  | .unhandledDE => 0xDE#8
  | .unhandledDF => 0xDF#8
  | .unhandledE0 => 0xE0#8
  | .unhandledE1 => 0xE1#8
  | .unhandledE2 => 0xE2#8
  | .unhandledE3 => 0xE3#8
  | .unhandledE4 => 0xE4#8
  | .unhandledE5 => 0xE5#8
  | .unhandledE6 => 0xE6#8
  | .unhandledE7 => 0xE7#8
  | .unhandledE8 => 0xE8#8
  | .unhandledE9 => 0xE9#8
  | .unhandledEA => 0xEA#8
  | .unhandledEB => 0xEB#8
  | .unhandledEC => 0xEC#8
  | .unhandledED => 0xED#8
  | .unhandledEE => 0xEE#8
  | .unhandledEF => 0xEF#8
  | .unhandledF0 => 0xF0#8
  | .unhandledF1 => 0xF1#8
  | .unhandledF2 => 0xF2#8
  | .unhandledF3 => 0xF3#8
  | .unhandledF4 => 0xF4#8
  | .unhandledF5 => 0xF5#8
  | .unhandledF6 => 0xF6#8
  | .unhandledF7 => 0xF7#8
  | .unhandledF8 => 0xF8#8
  | .unhandledF9 => 0xF9#8
  | .unhandledFA => 0xFA#8
  | .unhandledFB => 0xFB#8
  | .unhandledFC => 0xFC#8
  | .unhandledFD => 0xFD#8
  | .unhandledFE => 0xFE#8
  | .unhandledFF => 0xFF#8

/-- The operand bytes of an instruction, low byte first (R51). -/
def Instr.operandBytes : Instr → List Byte
  | .ldaImm d8 => [d8]
  | .ldaZp d8 => [d8]
  | .ldaZpX d8 => [d8]
  | .ldaAbs addr => [Machine.loByte addr, Machine.hiByte addr]
  | .ldaAbsX base => [Machine.loByte base, Machine.hiByte base]
  | .ldaAbsY base => [Machine.loByte base, Machine.hiByte base]
  | .ldaIndX d8 => [d8]
  | .ldaIndY d8 => [d8]
  | .ldxImm d8 => [d8]
  | .ldxZp d8 => [d8]
  | .ldxZpY d8 => [d8]
  | .ldxAbs addr => [Machine.loByte addr, Machine.hiByte addr]
  | .ldxAbsY base => [Machine.loByte base, Machine.hiByte base]
  | .ldyImm d8 => [d8]
  | .ldyZp d8 => [d8]
  | .ldyZpX d8 => [d8]
  | .ldyAbs addr => [Machine.loByte addr, Machine.hiByte addr]
  | .ldyAbsX base => [Machine.loByte base, Machine.hiByte base]
  | .jmpAbs target => [Machine.loByte target, Machine.hiByte target]
  | .jsr target => [Machine.loByte target, Machine.hiByte target]
  | .jmpInd | .unhandled00 | .unhandled01 | .unhandled02 | .unhandled03 | .unhandled04 | .unhandled05 | .unhandled06
  | .unhandled07 | .unhandled08 | .unhandled09 | .unhandled0A | .unhandled0B | .unhandled0C | .unhandled0D | .unhandled0E
  | .unhandled0F | .unhandled10 | .unhandled11 | .unhandled12 | .unhandled13 | .unhandled14 | .unhandled15 | .unhandled16
  | .unhandled17 | .unhandled18 | .unhandled19 | .unhandled1A | .unhandled1B | .unhandled1C | .unhandled1D | .unhandled1E
  | .unhandled1F | .unhandled21 | .unhandled22 | .unhandled23 | .unhandled24 | .unhandled25 | .unhandled26 | .unhandled27
  | .unhandled28 | .unhandled29 | .unhandled2A | .unhandled2B | .unhandled2C | .unhandled2D | .unhandled2E | .unhandled2F
  | .unhandled30 | .unhandled31 | .unhandled32 | .unhandled33 | .unhandled34 | .unhandled35 | .unhandled36 | .unhandled37
  | .unhandled38 | .unhandled39 | .unhandled3A | .unhandled3B | .unhandled3C | .unhandled3D | .unhandled3E | .unhandled3F
  | .unhandled40 | .unhandled41 | .unhandled42 | .unhandled43 | .unhandled44 | .unhandled45 | .unhandled46 | .unhandled47
  | .unhandled48 | .unhandled49 | .unhandled4A | .unhandled4B | .unhandled4D | .unhandled4E | .unhandled4F | .unhandled50
  | .unhandled51 | .unhandled52 | .unhandled53 | .unhandled54 | .unhandled55 | .unhandled56 | .unhandled57 | .unhandled58
  | .unhandled59 | .unhandled5A | .unhandled5B | .unhandled5C | .unhandled5D | .unhandled5E | .unhandled5F | .unhandled60
  | .unhandled61 | .unhandled62 | .unhandled63 | .unhandled64 | .unhandled65 | .unhandled66 | .unhandled67 | .unhandled68
  | .unhandled69 | .unhandled6A | .unhandled6B | .unhandled6D | .unhandled6E | .unhandled6F | .unhandled70 | .unhandled71
  | .unhandled72 | .unhandled73 | .unhandled74 | .unhandled75 | .unhandled76 | .unhandled77 | .unhandled78 | .unhandled79
  | .unhandled7A | .unhandled7B | .unhandled7C | .unhandled7D | .unhandled7E | .unhandled7F | .unhandled80 | .unhandled81
  | .unhandled82 | .unhandled83 | .unhandled84 | .unhandled85 | .unhandled86 | .unhandled87 | .unhandled88 | .unhandled89
  | .unhandled8A | .unhandled8B | .unhandled8C | .unhandled8D | .unhandled8E | .unhandled8F | .unhandled90 | .unhandled91
  | .unhandled92 | .unhandled93 | .unhandled94 | .unhandled95 | .unhandled96 | .unhandled97 | .unhandled98 | .unhandled99
  | .unhandled9A | .unhandled9B | .unhandled9C | .unhandled9D | .unhandled9E | .unhandled9F | .unhandledA3 | .unhandledA7
  | .unhandledA8 | .unhandledAA | .unhandledAB | .unhandledAF | .unhandledB0 | .unhandledB2 | .unhandledB3 | .unhandledB7
  | .unhandledB8 | .unhandledBA | .unhandledBB | .unhandledBF | .unhandledC0 | .unhandledC1 | .unhandledC2 | .unhandledC3
  | .unhandledC4 | .unhandledC5 | .unhandledC6 | .unhandledC7 | .unhandledC8 | .unhandledC9 | .unhandledCA | .unhandledCB
  | .unhandledCC | .unhandledCD | .unhandledCE | .unhandledCF | .unhandledD0 | .unhandledD1 | .unhandledD2 | .unhandledD3
  | .unhandledD4 | .unhandledD5 | .unhandledD6 | .unhandledD7 | .unhandledD8 | .unhandledD9 | .unhandledDA | .unhandledDB
  | .unhandledDC | .unhandledDD | .unhandledDE | .unhandledDF | .unhandledE0 | .unhandledE1 | .unhandledE2 | .unhandledE3
  | .unhandledE4 | .unhandledE5 | .unhandledE6 | .unhandledE7 | .unhandledE8 | .unhandledE9 | .unhandledEA | .unhandledEB
  | .unhandledEC | .unhandledED | .unhandledEE | .unhandledEF | .unhandledF0 | .unhandledF1 | .unhandledF2 | .unhandledF3
  | .unhandledF4 | .unhandledF5 | .unhandledF6 | .unhandledF7 | .unhandledF8 | .unhandledF9 | .unhandledFA | .unhandledFB
  | .unhandledFC | .unhandledFD | .unhandledFE | .unhandledFF => []

/-- The bytes of an instruction at rising addresses (R50, R51). -/
def encode (i : Instr) : List Byte := i.opcode :: i.operandBytes

/-- The three bytes of an instruction whose `nbits` low bits are `w`, the opcode in bits 7..0, later bytes above it and
every bit above `nbits` zero. -/
def tableBytes (nbits w : Nat) : Byte × Byte × Byte :=
  let v := w % 2 ^ nbits
  (BitVec.ofNat 8 v, BitVec.ofNat 8 (v / 256), BitVec.ofNat 8 (v / 65536))

/-- The instruction the decoder reads from those bytes. -/
def decodeTableWord (nbits w : Nat) : Option Instr :=
  let b := tableBytes nbits w
  match decode [b.1, b.2.1, b.2.2] with
  | .ok (i, _) => some i
  | .error _ => none

end Sys2Proof
end

