-- ==== Sys2Proof/Machine/Fetch.lean ====
section
/-! DEFINITION. Where an instruction's bytes are read and put (spec/30_encoding.md R50, R51; spec/20_memory.md R45). -/

namespace Sys2Proof.Machine

/-- The opcode byte at PC and the two bytes after it, modulo 65,536: as many as the longest instruction has. -/
def instrBytes (s : State) : List Byte :=
  [s.mem.read s.pc, s.mem.read (s.pc + 1#16), s.mem.read (s.pc + 2#16)]

/-- The instruction at PC. Its bytes are read afresh from memory on every execute (R45); of the three, only those its
format has are consumed, charged and entered in the event history, by the fetch primitives (log 3). -/
def fetchInstr (s : State) : Instr :=
  decodeAt (s.mem.read s.pc) (s.mem.read (s.pc + 1#16)) (s.mem.read (s.pc + 2#16))

/-- The three bytes of a table word stored at PC (log 15), as a host writes a program there (R146). -/
def placeInstr (nbits w : Nat) (s : State) : State :=
  let b := tableBytes nbits w
  { s with mem := ((s.mem.write s.pc b.1).write (s.pc + 1#16) b.2.1).write (s.pc + 2#16) b.2.2 }

end Sys2Proof.Machine
end

