-- ==== Sys2Proof/Machine/Step.lean ====
section
/-! DEFINITION. One step is one execute transaction (spec/70_reset_and_hazards.md R144, R145). -/

namespace Sys2Proof.Machine

/-- Execute: exactly one full instruction. Before the first reset it is refused (R142). -/
def step (s : State) : Host.Outcome State Fault Refusal :=
  match s.runState with
  | .reset => .refused .executeBeforeReset
  | .running => finishExecute (exec (fetchInstr s) (beginExecute s))

/-- `s` with a table word's instruction stored at PC and the core Running, which is all the next step's fetch needs
(log 15). -/
def State.withFetchWord (s : State) (nbits w : Nat) : State :=
  { placeInstr nbits w s with runState := .running }

end Sys2Proof.Machine
end

