-- ==== Sys2Proof/Machine/HostPort.lean ====
section
/-! DEFINITION. The host's side of the block (spec/00_scope.md R6, spec/70_reset_and_hazards.md R140 to R149, R156,
R157): the transactions, the test port to memory and registers, the launch state and the budgeted run. A host moves only
between transactions (R146, R153), so a move is a function of a whole state. -/

namespace Sys2Proof.Machine

/-- The name of a flag, as the host's register access takes it (R147). -/
inductive FlagName where
  | n | v | b | d | i | z | c
  deriving DecidableEq, Repr

/-- Reads one flag. -/
def getFlag (f : FlagName) (p : Flags) : Bool :=
  match f with
  | .n => p.n
  | .v => p.v
  | .b => p.b
  | .d => p.d
  | .i => p.i
  | .z => p.z
  | .c => p.c

/-- Writes one flag and no other. -/
def setFlag (f : FlagName) (b : Bool) (p : Flags) : Flags :=
  match f with
  | .n => { p with n := b }
  | .v => { p with v := b }
  | .b => { p with b := b }
  | .d => { p with d := b }
  | .i => { p with i := b }
  | .z => { p with z := b }
  | .c => { p with c := b }

/-- What the host may write: any memory cell (R146), and PC, SP, A, X, Y or a flag (R147, HOST_REG_ACCESS = all). CYC is
not among them. -/
inductive HostWrite where
  | mem (addr : Word) (v : Byte)
  | pc (v : Word)
  | sp (v : Byte)
  | reg (r : DataReg) (v : Byte)
  | flag (f : FlagName) (b : Bool)
  deriving DecidableEq, Repr

/-- A host write changes only what it names: writing a register runs no `SetZN` (R147). -/
def hostWrite (w : HostWrite) (s : State) : State :=
  match w with
  | .mem addr v => { s with mem := s.mem.write addr v }
  | .pc v => { s with pc := v }
  | .sp v => { s with sp := v }
  | .reg r v => setReg r v s
  | .flag f b => { s with p := setFlag f b s.p }

/-- What the host may read (R146, R147). -/
inductive HostQuery where
  | mem (addr : Word)
  | pc
  | sp
  | reg (r : DataReg)
  | flag (f : FlagName)
  | cycTotal
  deriving DecidableEq, Repr

/-- What a host read answers. -/
inductive HostValue where
  | byte (v : Byte)
  | word (v : Word)
  | bit (b : Bool)
  | count (n : Nat)
  deriving DecidableEq, Repr

/-- A host read: the stored value, no state changed (R146, R147). Before the first reset it has no move (R156). -/
def hostRead (q : HostQuery) (s : State) : Host.Outcome HostValue Fault Refusal :=
  match s.runState with
  | .reset => .refused .hostAccessBeforeReset
  | .running =>
    match q with
    | .mem addr => .next (.byte (s.mem.read addr))
    | .pc => .next (.word s.pc)
    | .sp => .next (.byte s.sp)
    | .reg r => .next (.byte (getReg r s))
    | .flag f => .next (.bit (getFlag f s.p))
    | .cycTotal => .next (.count s.cycTotal)

/-- The transactions that change the state (R6, R156). -/
inductive Transaction where
  | reset
  | execute
  | write (w : HostWrite)
  deriving DecidableEq, Repr

/-- One transaction. Reset is valid in either `run_state`; it must be the first (R140, R142, R156). -/
def transact (t : Transaction) (s : State) : Host.Outcome State Fault Refusal :=
  match t with
  | .reset => .next (resetMachine s)
  | .execute => step s
  | .write w =>
    match s.runState with
    | .reset => .refused .hostAccessBeforeReset
    | .running => .next (hostWrite w s)

/-- The launch state of a run: the state after reset changed by a finite list of host writes, in order (R157). -/
def launch (ws : List HostWrite) : State := ws.foldl (fun s w => hostWrite w s) State.reset

/-- The loop of `Run(target)` after `spent` cycles. `fuel` bounds the executes: each costs at least one cycle, so
`target` of them are enough. -/
def runFrom (fuel target spent : Nat) (s : State) : Host.Outcome (Nat × State) Fault Refusal :=
  match fuel with
  | 0 => .next (spent, s)
  | fuel + 1 =>
    if spent < target then
      match step s with
      | .next t => runFrom fuel target (spent + t.cyc) t
      | .fault r => .fault r
      | .refused r => .refused r
    else .next (spent, s)

/-- `Run(target)`, the optional wrapper outside the core: executes until the cycles spent reach or exceed the target,
tested before each instruction, and answers the cycles spent (R149; log 18). -/
def runBudget (target : Nat) (s : State) : Host.Outcome (Nat × State) Fault Refusal :=
  runFrom target target 0 s

end Sys2Proof.Machine
end

