-- ==== Sys2Proof/Machine/Pseudocode.lean ====
section
/-! DEFINITION. The execute transaction as spec/70_reset_and_hazards.md R145 writes it, fetching each byte from memory
only when it needs it. It is not the machine: `step` (Machine/Step.lean) is. It is the clear second reading that `step`,
which decodes first and executes after, is compared with. -/

namespace Sys2Proof.Machine.Pseudocode

/-- `Crossed(base, ea)` of spec/40_fetch_and_addressing.md R85, followed by its tick. -/
def crossTick (base ea : Word) (s : State) : State :=
  if hiByte base = hiByte ea then s else tick 1 s

/-- `Operand_IMM` (R76). -/
def operandIMM (s : State) : Byte × State := fetchByte s

/-- `Operand_ZP` (R77). -/
def operandZP (s : State) : Byte × State :=
  let d8 := fetchByte s
  readByte (zext16 d8.1) d8.2

/-- `Operand_ZPX` and `Operand_ZPY` (R78, R79), for the index register `r`. -/
def operandZPI (r : DataReg) (s : State) : Byte × State :=
  let d8 := fetchByte s
  readByte (zext16 (d8.1 + getReg r d8.2)) (tick 1 d8.2)

/-- `Operand_ABS` (R80). -/
def operandABS (s : State) : Byte × State :=
  let ea := fetchWord s
  readByte ea.1 ea.2

/-- `Operand_ABSX` and `Operand_ABSY` (R81, R82), for the index register `r`. -/
def operandABSI (r : DataReg) (s : State) : Byte × State :=
  let base := fetchWord s
  let ea := base.1 + zext16 (getReg r base.2)
  readByte ea (crossTick base.1 ea base.2)

/-- `Operand_INDX` (R83). -/
def operandINDX (s : State) : Byte × State :=
  let d8 := fetchByte s
  let ptr := zext16 (d8.1 + d8.2.x)
  let lo := readByte ptr (tick 1 d8.2)
  let hi := readByte (ptr + 1#16) lo.2
  readByte (effAddr lo.1 hi.1) hi.2

/-- `Operand_INDY` (R84). -/
def operandINDY (s : State) : Byte × State :=
  let d8 := fetchByte s
  let zp := zext16 d8.1
  let lo := readByte zp d8.2
  let hi := readByte (zp + 1#16) lo.2
  let base := effAddr lo.1 hi.1
  let ea := base + zext16 hi.2.y
  readByte ea (crossTick base ea hi.2)

/-- `Load(r, mode)` (R89). -/
def loadFrom (r : DataReg) (v : Byte × State) : State := setZN v.1 (setReg r v.1 v.2)

/-- JMP absolute (spec/42_jumps_and_calls.md R110). -/
def jump (s : State) : State :=
  let target := fetchWord s
  { target.2 with pc := target.1 }

/-- JSR (R112), with STACK_BASE = 0x0100 and JSR_SP_STEP = 1. -/
def call (s : State) : State :=
  let target := fetchWord s
  let s1 := writeWord (target.2.pc - 1#16) (0x0100#16 + zext16 target.2.sp) target.2
  tick 1 { s1 with sp := s1.sp - 1#8, pc := target.1 }

/-- The `case op of` of R145. -/
def dispatch (op : Byte) (s : State) : State :=
  if op = 0xA9#8 then loadFrom .a (operandIMM s)
  else if op = 0xA5#8 then loadFrom .a (operandZP s)
  else if op = 0xB5#8 then loadFrom .a (operandZPI .x s)
  else if op = 0xAD#8 then loadFrom .a (operandABS s)
  else if op = 0xBD#8 then loadFrom .a (operandABSI .x s)
  else if op = 0xB9#8 then loadFrom .a (operandABSI .y s)
  else if op = 0xA1#8 then loadFrom .a (operandINDX s)
  else if op = 0xB1#8 then loadFrom .a (operandINDY s)
  else if op = 0xA2#8 then loadFrom .x (operandIMM s)
  else if op = 0xA6#8 then loadFrom .x (operandZP s)
  else if op = 0xB6#8 then loadFrom .x (operandZPI .y s)
  else if op = 0xAE#8 then loadFrom .x (operandABS s)
  else if op = 0xBE#8 then loadFrom .x (operandABSI .y s)
  else if op = 0xA0#8 then loadFrom .y (operandIMM s)
  else if op = 0xA4#8 then loadFrom .y (operandZP s)
  else if op = 0xB4#8 then loadFrom .y (operandZPI .x s)
  else if op = 0xAC#8 then loadFrom .y (operandABS s)
  else if op = 0xBC#8 then loadFrom .y (operandABSI .x s)
  else if op = 0x4C#8 then jump s
  else if op = 0x6C#8 then s
  else if op = 0x20#8 then call s
  else { s with diag := some op }

/-- `Execute()` (R145). -/
def execute (s : State) : State :=
  let op := fetchByte { s with cyc := 0, diag := none, events := [] }
  let s1 := dispatch op.1 op.2
  { s1 with cycTotal := s1.cycTotal + s1.cyc }

end Sys2Proof.Machine.Pseudocode
end

