-- ==== Sys2Proof/Safety.lean ====
section
/-! DEFINITION. The terms claims are stated in: what a state looks like after an instruction, written from the rules'
tables and not from the meanings, what every state of a run satisfies, and what counts as a clean run. -/

namespace Sys2Proof.Machine

/-- The 21 handled opcode bytes (spec/30_encoding.md R54). -/
def handledBytes : List Byte :=
  [0xA9#8, 0xA5#8, 0xB5#8, 0xAD#8, 0xBD#8, 0xB9#8, 0xA1#8, 0xB1#8,
   0xA2#8, 0xA6#8, 0xB6#8, 0xAE#8, 0xBE#8,
   0xA0#8, 0xA4#8, 0xB4#8, 0xAC#8, 0xBC#8, 0x4C#8, 0x6C#8, 0x20#8]

/-- How many operand bytes follow an opcode byte: formats F2, F3 and F1 (R51, R54, R55). -/
def operandCount (op : Byte) : Nat :=
  if op ∈ [0xA9#8, 0xA2#8, 0xA0#8, 0xA5#8, 0xA6#8, 0xA4#8, 0xB5#8, 0xB6#8, 0xB4#8, 0xA1#8, 0xB1#8] then 1
  else if op ∈ [0xAD#8, 0xAE#8, 0xAC#8, 0xBD#8, 0xB9#8, 0xBE#8, 0xBC#8, 0x4C#8, 0x20#8] then 2
  else 0

/-- The destination of a load, and none for any other instruction (R52, R54). -/
def loadDest (i : Instr) : Option DataReg :=
  match i.entry with
  | .handled ⟨_, .load r, _, _⟩ => some r
  | _ => none

/-- `s` after the byte `v` is loaded into `r`: that register holds it, Z tells whether it is zero, N is its bit 7, and
nothing else is different (spec/40_fetch_and_addressing.md R74, R89). -/
def loaded (r : DataReg) (v : Byte) (s : State) : State :=
  { s with
    a := if r = .a then v else s.a
    x := if r = .x then v else s.x
    y := if r = .y then v else s.y
    p := { s.p with z := v == 0x00#8, n := v.getLsbD 7 } }

/-- `s` after an execute transaction that consumed `len` bytes, used `cycles` cycles, made these memory events and
raised no diagnostic, and is otherwise unchanged (spec/70_reset_and_hazards.md R145). -/
def executed (len : Word) (cycles : Nat) (events : List MemEvent) (s : State) : State :=
  { s with
    pc := s.pc + len
    cyc := cycles
    cycTotal := s.cycTotal + cycles
    diag := none
    events := events }

/-- The page-crossing test in numbers: the low byte of the base and the index carry into the high byte (R85). -/
def carries (base : Word) (idx : Byte) : Bool := 255 < base.toNat % 256 + idx.toNat

/-- The 16-bit address stored little-endian at a zero-page pointer, its high byte at the next 16-bit address
(R83, R84; D6, D14). -/
def storedAddr (s : State) (ptr : Byte) : Word :=
  effAddr (s.mem.read (zext16 ptr)) (s.mem.read (zext16 ptr + 1#16))

/-- The effective address of a load at the start of its execute transaction, PC at its opcode: the address its value is
read from. In the immediate mode it is the operand byte's own address (spec/41_loads.md R108). -/
def effectiveAddr (i : Instr) (s : State) : Option Word :=
  match i with
  | .ldaImm _ | .ldxImm _ | .ldyImm _ => some (s.pc + 1#16)
  | .ldaZp d8 | .ldxZp d8 | .ldyZp d8 => some (zext16 d8)
  | .ldaZpX d8 | .ldyZpX d8 => some (zext16 (d8 + s.x))
  | .ldxZpY d8 => some (zext16 (d8 + s.y))
  | .ldaAbs addr | .ldxAbs addr | .ldyAbs addr => some addr
  | .ldaAbsX base | .ldyAbsX base => some (base + zext16 s.x)
  | .ldaAbsY base | .ldxAbsY base => some (base + zext16 s.y)
  | .ldaIndX d8 => some (storedAddr s (d8 + s.x))
  | .ldaIndY d8 => some (storedAddr s d8 + zext16 s.y)
  | _ => none

/-- Whether the index addition of an instruction changes the high byte, in the modes where that costs a cycle (R85). -/
def indexCrosses (i : Instr) (s : State) : Bool :=
  match i with
  | .ldaAbsX base | .ldyAbsX base => carries base s.x
  | .ldaAbsY base | .ldxAbsY base => carries base s.y
  | .ldaIndY d8 => carries (storedAddr s d8) s.y
  | _ => false

/-- The cycle table of spec/70_reset_and_hazards.md R154, by opcode byte. -/
def cyclesOf (op : Byte) (crossing : Bool) : Nat :=
  if op ∈ [0xA9#8, 0xA2#8, 0xA0#8] then 2
  else if op ∈ [0xA5#8, 0xA6#8, 0xA4#8] then 3
  else if op ∈ [0xB5#8, 0xB4#8, 0xB6#8, 0xAD#8, 0xAE#8, 0xAC#8] then 4
  else if op ∈ [0xBD#8, 0xBC#8, 0xB9#8, 0xBE#8] then (if crossing then 5 else 4)
  else if op = 0xA1#8 then 6
  else if op = 0xB1#8 then (if crossing then 6 else 5)
  else if op = 0x4C#8 then 3
  else if op = 0x20#8 then 6
  else 1

/-- The internal steps of an instruction, cycles that access no memory (R70, R78, R79, R81 to R84, R112). -/
def internalTicks (i : Instr) (s : State) : Nat :=
  match i with
  | .ldaZpX _ | .ldyZpX _ | .ldxZpY _ | .ldaIndX _ | .jsr _ => 1
  | i => if indexCrosses i s then 1 else 0

/-- PC after an instruction that starts at `s.pc` (spec/10_state.md R13). -/
def nextPc (i : Instr) (s : State) : Word :=
  match i with
  | .jmpAbs target | .jsr target => target
  | i => match i.entry with
    | .handled ⟨.imm, _, _, _⟩ | .handled ⟨.zp, _, _, _⟩ | .handled ⟨.zpx, _, _, _⟩ | .handled ⟨.zpy, _, _, _⟩
    | .handled ⟨.indx, _, _, _⟩ | .handled ⟨.indy, _, _, _⟩ => s.pc + 2#16
    | .handled ⟨.abs, _, _, _⟩ | .handled ⟨.absx, _, _, _⟩ | .handled ⟨.absy, _, _, _⟩ => s.pc + 3#16
    | _ => s.pc + 1#16

/-- The memory events of the instruction that starts at `s.pc`, in order (spec/20_memory.md R47). -/
def expectedEvents (i : Instr) (s : State) : List MemEvent :=
  let a := s.pc
  match i with
  | .ldaImm _ | .ldxImm _ | .ldyImm _ => [.read a, .read (a + 1#16)]
  | .ldaZp _ | .ldxZp _ | .ldyZp _ | .ldaZpX _ | .ldyZpX _ | .ldxZpY _ =>
    [.read a, .read (a + 1#16)] ++ (effectiveAddr i s).toList.map .read
  | .ldaAbs _ | .ldxAbs _ | .ldyAbs _ | .ldaAbsX _ | .ldyAbsX _ | .ldaAbsY _ | .ldxAbsY _ =>
    [.read a, .read (a + 1#16), .read (a + 2#16)] ++ (effectiveAddr i s).toList.map .read
  | .ldaIndX d8 =>
    let ptr := zext16 (d8 + s.x)
    [.read a, .read (a + 1#16), .read ptr, .read (ptr + 1#16)] ++ (effectiveAddr i s).toList.map .read
  | .ldaIndY d8 =>
    let zp := zext16 d8
    [.read a, .read (a + 1#16), .read zp, .read (zp + 1#16)] ++ (effectiveAddr i s).toList.map .read
  | .jmpAbs _ => [.read a, .read (a + 1#16), .read (a + 2#16)]
  | .jsr _ =>
    [.read a, .read (a + 1#16), .read (a + 2#16), .write (stackAddr s.sp), .write (stackAddr s.sp - 1#16)]
  | _ => [.read a]

/-- What holds at reset and is kept by every step: memory is canonical, the core stays Running (spec/10_state.md R21),
Z and N are not both set (spec/95_test_vectors.md P-H), the last instruction used at most 6 cycles, all of them counted
in CYC (R19, R20), and made no more accesses than it used cycles (R70). -/
def Inv (s : State) : Prop :=
  s.mem.wf = true ∧ s.runState = .running ∧ ¬(s.p.z = true ∧ s.p.n = true) ∧ s.cyc ≤ 6 ∧ s.cyc ≤ s.cycTotal ∧
    s.events.length ≤ s.cyc

/-- The stricter safety predicate that spec/93_implementation_defined.md U5 allows as an addition: the last execute
raised no diagnostic. The spec itself calls an unhandled opcode non-fatal. -/
def Clean (s : State) : Prop := s.diag = none

end Sys2Proof.Machine
end

