-- ==== Sys2Proof/Certificates/Slice0/Obligations.lean ====
section
/-! DEFINITION. The statements for the provers, from the numbered rules of spec/. Where a clause rests on a choice the
spec marks as its own (a decision D<n>, or a byte value from general knowledge), the docstring names it. -/

open Sys2Proof Sys2Proof.Machine

/-! ## Encoding -/

/-- Words written out from R54 and R59. The byte values other than A9 and B5 are the spec's D10, D11 and D22. -/
def Obligations.SpecWordsDecode : Prop :=
  decode [0xA9#8, 0x00#8] = .ok (.ldaImm 0x00#8, []) ∧
  decode [0xB5#8, 0x80#8] = .ok (.ldaZpX 0x80#8, []) ∧
  decode [0xBD#8, 0x80#8, 0x44#8] = .ok (.ldaAbsX 0x4480#16, []) ∧
  decode [0xA1#8, 0x1C#8] = .ok (.ldaIndX 0x1C#8, []) ∧
  decode [0xB1#8, 0x20#8] = .ok (.ldaIndY 0x20#8, []) ∧
  decode [0xB6#8, 0x80#8] = .ok (.ldxZpY 0x80#8, []) ∧
  decode [0xBC#8, 0xFE#8, 0x02#8] = .ok (.ldyAbsX 0x02FE#16, []) ∧
  decode [0x4C#8, 0x00#8, 0x02#8] = .ok (.jmpAbs 0x0200#16, []) ∧
  decode [0x6C#8, 0xA9#8, 0x00#8] = .ok (.jmpInd, [0xA9#8, 0x00#8]) ∧
  decode [0x20#8, 0x34#8, 0x12#8] = .ok (.jsr 0x1234#16, []) ∧
  decode [0x85#8, 0x10#8] = .ok (.unhandled85, [0x10#8])

/-- Decoding the encoding of an instruction gives it back, whatever bytes follow: no bit of an operand is dropped
(R50, R51, R53). -/
def Obligations.DecodeOfEncodeIsIdentity : Prop :=
  ∀ (i : Instr) (rest : List Byte), i.wellFormed = true → decode (encode i ++ rest) = .ok (i, rest)

/-- Bytes that decode are the encoding of what they decode to: each word has one meaning (R50). -/
def Obligations.EncodeOfDecodeIsIdentity : Prop :=
  ∀ (bytes : List Byte) (i : Instr) (rest : List Byte), decode bytes = .ok (i, rest) → encode i ++ rest = bytes

/-- Exactly the 21 bytes of R54 are handled and the other 235 are unhandled (R56). The list is the spec's D10, D11. -/
def Obligations.OtherBytesAreUnhandled : Prop :=
  handledBytes.length = 21 ∧ handledBytes.Nodup ∧
  ∀ op b1 b2 : Byte, (decodeAt op b1 b2).opcode = op ∧
    ((decodeAt op b1 b2).entry = .unhandled ↔ op ∉ handledBytes)

/-- The length is a function of the opcode byte alone (R55; the byte values are D10, D11, D22): a list that holds the
operand bytes decodes and leaves the rest, a shorter one is rejected by name (the model's own: spec/ has no list of
bytes that ends). -/
def Obligations.LengthIsAFunctionOfTheOpcode : Prop :=
  ∀ (op : Byte) (rest : List Byte),
    (operandCount op ≤ rest.length → ∃ i, decode (op :: rest) = .ok (i, rest.drop (operandCount op))) ∧
    (rest.length < operandCount op → decode (op :: rest) = .error (.missingOperand op))

/-! ## The execute transaction -/

/-- A step of a Running core is the instruction its bytes decode to, run after the opcode fetch (one cycle, PC past the
opcode, `diag` cleared), and then `CYC <- CYC + cyc` (R145). Not of R145 but the model's own choices: that three bytes are
decoded before the instruction runs (log 3, DEDUCED), and that an event history starts anew with the opcode's read
(log 1, DESIGN CHOICE). -/
def Obligations.StepRunsTheDecodedInstruction : Prop :=
  ∀ (s : State) (i : Instr) (rest : List Byte), s.runState = .running →
    decode [s.mem.read s.pc, s.mem.read (s.pc + 1#16), s.mem.read (s.pc + 2#16)] = .ok (i, rest) →
    step s = match exec i { s with pc := s.pc + 1#16, cyc := 1, diag := none, events := [.read s.pc] } with
      | .next t => .next { t with cycTotal := t.cycTotal + t.cyc }
      | .fault r => .fault r
      | .refused r => .refused r

/-- Before the first reset only reset has a meaning (R142, R156). The refusal of an execute is the spec's D13. The refusal
of a host read or write is the model's choice (log 4, DESIGN CHOICE): R142 lets a host read answer an unspecified value.
`State.reset` also has `diag` none and no events, which R140 does not say: the model's choices too (logs 2 and 1). -/
def Obligations.OnlyResetBeforeTheFirstReset : Prop :=
  ∀ s : State, s.runState = .reset →
    step s = .refused .executeBeforeReset ∧
    (∀ w, transact (.write w) s = .refused .hostAccessBeforeReset) ∧
    (∀ q, hostRead q s = .refused .hostAccessBeforeReset) ∧
    transact .reset s = .next State.reset

/-- What a reset transaction leaves, from any state (R140; memory all zero: the spec's D4; CYC = 0: its D7). Not said
here: `diag` and `events`, logs 1 and 2. -/
def Obligations.ResetLeavesTheResetValues : Prop :=
  ∀ s : State, ∃ t, transact .reset s = .next t ∧
    t.pc = 0xFFFC#16 ∧ t.sp = 0xFF#8 ∧ t.a = 0x00#8 ∧ t.x = 0x00#8 ∧ t.y = 0x00#8 ∧
    t.p = ⟨false, false, false, false, false, false, false⟩ ∧
    (∀ q, t.mem.read q = 0x00#8) ∧ t.cycTotal = 0 ∧ t.cyc = 0 ∧ t.runState = .running

/-! ## The primitives -/

/-- R74: SetZN writes Z and N from the byte and touches nothing else; it never sets both. -/
def Obligations.SetZNWritesZeroAndNegativeOnly : Prop :=
  ∀ (v : Byte) (s : State),
    setZN v s = { s with p := { s.p with z := decide (v = 0x00#8), n := decide (128 ≤ v.toNat) } } ∧
    ¬((setZN v s).p.z = true ∧ (setZN v s).p.n = true)

/-- R71, R72: the fetch primitives, each with its whole effect; PC wraps past 0xFFFF (the spec's D5). -/
def Obligations.FetchPrimitivesMovePcAndCharge : Prop :=
  ∀ s : State,
    fetchByte s = (s.mem.read s.pc,
      { s with pc := s.pc + 1#16, cyc := s.cyc + 1, events := s.events ++ [.read s.pc] }) ∧
    fetchWord s = (effAddr (s.mem.read s.pc) (s.mem.read (s.pc + 1#16)),
      { s with pc := s.pc + 2#16, cyc := s.cyc + 2, events := s.events ++ [.read s.pc, .read (s.pc + 1#16)] })

/-- R73: the byte at the address, one cycle, PC and the rest unmoved. (The event history, which the model keeps beside
the spec's state, is stated in `MemoryEventsAreThoseOfTheTable`.) -/
def Obligations.ReadByteChargesOneCycle : Prop :=
  ∀ (q : Word) (s : State), ∃ ev, readByte q s = (s.mem.read q, { s with cyc := s.cyc + 1, events := ev })

/-- R33: a memory write always succeeds and replaces the stored byte; the cell reads as that byte until the next write
to it, and no other cell changes. -/
def Obligations.MemWriteReplacesTheStoredByte : Prop :=
  ∀ (q : Word) (v : Byte) (s : State), ∃ m ev,
    memWrite q v s = { s with mem := m, events := ev } ∧ m.read q = v ∧ (∀ b, b ≠ q → m.read b = s.mem.read b) ∧
    ∀ (b : Word) (u : Byte), (memWrite b u (memWrite q v s)).mem.read q = if b = q then u else v

/-- The model's form of memory holds nothing but its 65,536 bytes: two canonical memories that read alike at every
address are the same list (R30, R31). -/
def Obligations.CanonicalMemoryIsItsReads : Prop :=
  ∀ m m' : Memory, m.wf = true → m'.wf = true → (∀ a, m.read a = m'.read a) → m = m'

/-- R34: the low byte at the given address, the high byte one below (modulo 65,536: D5), two cycles. -/
def Obligations.WordWritePutsTheHighByteBelow : Prop :=
  ∀ (value saddr : Word) (s : State), ∃ m,
    writeWord value saddr s = { s with
      mem := m, cyc := s.cyc + 2, events := s.events ++ [.write saddr, .write (saddr - 1#16)] } ∧
    (m.read saddr).toNat = value.toNat % 256 ∧ (m.read (saddr - 1#16)).toNat = value.toNat / 256 ∧
    ∀ q, q ≠ saddr → q ≠ saddr - 1#16 → m.read q = s.mem.read q

/-- R75: `lo + (hi << 8)` without overflow, and splitting a word undoes it. -/
def Obligations.EffAddrIsLowPlusHighTimes256 : Prop :=
  (∀ lo hi : Byte, (effAddr lo hi).toNat = lo.toNat + 256 * hi.toNat) ∧
  (∀ w : Word, effAddr (loByte w) (hiByte w) = w)

/-- R85: the high byte changes exactly when the low byte of the base and the index exceed 0xFF together, also where the
sum wraps past 0xFFFF; never for index 0x00. -/
def Obligations.PageCrossingIsTheLowByteCarry : Prop :=
  ∀ (base : Word) (idx : Byte),
    (crossed base (eaAbsIdx base idx) = true ↔ 255 < base.toNat % 256 + idx.toNat) ∧
    (eaAbsIdx base idx).toNat = (base.toNat + idx.toNat) % 65536 ∧
    (idx = 0x00#8 → crossed base (eaAbsIdx base idx) = false)

/-- R53: zero-page sums drop the carry and stay in page zero; the high byte of a pointer is read at the next 16-bit
address, 0x0100 after 0x00FF (the spec's D6); SP maps into the page at 0x0100 (the spec's D3). -/
def Obligations.ZeroPageAndStackAddresses : Prop :=
  ∀ (d8 idx : Byte),
    (eaZp d8).toNat = d8.toNat ∧ (eaZpIdx d8 idx).toNat = (d8.toNat + idx.toNat) % 256 ∧
    (ptrHighAddr (eaZp d8)).toNat = d8.toNat + 1 ∧ (stackAddr d8).toNat = 256 + d8.toNat

/-! ## Every instruction completes: `exec` from any state, after the opcode fetch -/

/-- LDA, LDX and LDY immediate (R76, R90, R98, R103). -/
def Obligations.LoadImmediateCompletes : Prop :=
  ∀ (d8 : Byte) (s : State),
    let t := { s with pc := s.pc + 1#16, cyc := s.cyc + 1, events := s.events ++ [.read s.pc] }
    exec (.ldaImm d8) s = .next (loaded .a d8 t) ∧
    exec (.ldxImm d8) s = .next (loaded .x d8 t) ∧
    exec (.ldyImm d8) s = .next (loaded .y d8 t)

/-- LDA, LDX and LDY zero page (R77, R91, R99, R104). -/
def Obligations.LoadZeroPageCompletes : Prop :=
  ∀ (d8 : Byte) (s : State),
    let v := s.mem.read (zext16 d8)
    let t := { s with pc := s.pc + 1#16, cyc := s.cyc + 2, events := s.events ++ [.read s.pc, .read (zext16 d8)] }
    exec (.ldaZp d8) s = .next (loaded .a v t) ∧
    exec (.ldxZp d8) s = .next (loaded .x v t) ∧
    exec (.ldyZp d8) s = .next (loaded .y v t)

/-- LDA and LDY zero page,X (R78, R92, R105). -/
def Obligations.LoadZeroPageXCompletes : Prop :=
  ∀ (d8 : Byte) (s : State),
    let ea := zext16 (d8 + s.x)
    let t := { s with pc := s.pc + 1#16, cyc := s.cyc + 3, events := s.events ++ [.read s.pc, .read ea] }
    exec (.ldaZpX d8) s = .next (loaded .a (s.mem.read ea) t) ∧
    exec (.ldyZpX d8) s = .next (loaded .y (s.mem.read ea) t)

/-- LDX zero page,Y (R79, R100). -/
def Obligations.LoadZeroPageYCompletes : Prop :=
  ∀ (d8 : Byte) (s : State),
    let ea := zext16 (d8 + s.y)
    exec (.ldxZpY d8) s = .next (loaded .x (s.mem.read ea)
      { s with pc := s.pc + 1#16, cyc := s.cyc + 3, events := s.events ++ [.read s.pc, .read ea] })

/-- LDA, LDX and LDY absolute (R80, R93, R101, R106). -/
def Obligations.LoadAbsoluteCompletes : Prop :=
  ∀ (addr : Word) (s : State),
    let v := s.mem.read addr
    let t := { s with pc := s.pc + 2#16, cyc := s.cyc + 3,
                      events := s.events ++ [.read s.pc, .read (s.pc + 1#16), .read addr] }
    exec (.ldaAbs addr) s = .next (loaded .a v t) ∧
    exec (.ldxAbs addr) s = .next (loaded .x v t) ∧
    exec (.ldyAbs addr) s = .next (loaded .y v t)

/-- LDA and LDY absolute,X (R81, R94, R107). -/
def Obligations.LoadAbsoluteXCompletes : Prop :=
  ∀ (base : Word) (s : State),
    let ea := base + zext16 s.x
    let t := { s with pc := s.pc + 2#16, cyc := s.cyc + (if carries base s.x then 4 else 3),
                      events := s.events ++ [.read s.pc, .read (s.pc + 1#16), .read ea] }
    exec (.ldaAbsX base) s = .next (loaded .a (s.mem.read ea) t) ∧
    exec (.ldyAbsX base) s = .next (loaded .y (s.mem.read ea) t)

/-- LDA and LDX absolute,Y (R82, R95, R102). -/
def Obligations.LoadAbsoluteYCompletes : Prop :=
  ∀ (base : Word) (s : State),
    let ea := base + zext16 s.y
    let t := { s with pc := s.pc + 2#16, cyc := s.cyc + (if carries base s.y then 4 else 3),
                      events := s.events ++ [.read s.pc, .read (s.pc + 1#16), .read ea] }
    exec (.ldaAbsY base) s = .next (loaded .a (s.mem.read ea) t) ∧
    exec (.ldxAbsY base) s = .next (loaded .x (s.mem.read ea) t)

/-- LDA `(zp,X)` (R83, R96; the pointer's byte order and its high byte's address are the spec's D14 and D6). -/
def Obligations.LoadIndexedIndirectCompletes : Prop :=
  ∀ (d8 : Byte) (s : State),
    let ptr := zext16 (d8 + s.x)
    let ea := effAddr (s.mem.read ptr) (s.mem.read (ptr + 1#16))
    exec (.ldaIndX d8) s = .next (loaded .a (s.mem.read ea)
      { s with pc := s.pc + 1#16, cyc := s.cyc + 5,
               events := s.events ++ [.read s.pc, .read ptr, .read (ptr + 1#16), .read ea] })

/-- LDA `(zp),Y` (R84, R97; D6, D14). -/
def Obligations.LoadIndirectIndexedCompletes : Prop :=
  ∀ (d8 : Byte) (s : State),
    let base := effAddr (s.mem.read (zext16 d8)) (s.mem.read (zext16 d8 + 1#16))
    let ea := base + zext16 s.y
    exec (.ldaIndY d8) s = .next (loaded .a (s.mem.read ea)
      { s with pc := s.pc + 1#16, cyc := s.cyc + (if carries base s.y then 5 else 4),
               events := s.events ++ [.read s.pc, .read (zext16 d8), .read (zext16 d8 + 1#16), .read ea] })

/-- JMP absolute sets PC to its operand and the placeholder does nothing (R110, R111; D22). -/
def Obligations.JumpsComplete : Prop :=
  ∀ (target : Word) (s : State),
    exec (.jmpAbs target) s = .next
      { s with pc := target, cyc := s.cyc + 2, events := s.events ++ [.read s.pc, .read (s.pc + 1#16)] } ∧
    exec .jmpInd s = .next s

/-- JSR stores the address of its last byte at the stack address, low byte there and high byte below, moves SP down by
one and jumps (R112; the stack page and the step of one are the spec's D3 and D2). -/
def Obligations.JsrCompletes : Prop :=
  ∀ (target : Word) (s : State),
    let ret := s.pc + 1#16
    let saddr := 0x0100#16 + zext16 s.sp
    exec (.jsr target) s = .next
      { s with pc := target, sp := s.sp - 1#8, cyc := s.cyc + 5,
               mem := (s.mem.write saddr (loByte ret)).write (saddr - 1#16) (hiByte ret),
               events := s.events ++
                 [.read s.pc, .read (s.pc + 1#16), .write saddr, .write (saddr - 1#16)] }

/-- Each of the 235 instructions `unhandledHH`: `diag` becomes its byte and nothing else changes (R120). -/
def Obligations.UnhandledCompletes : Prop :=
  ∀ (i : Instr) (s : State), i.opcode ∉ handledBytes → exec i s = .next { s with diag := some i.opcode }

/-! ## Every opcode byte in memory: one whole execute -/

/-- LDA immediate, the byte A9 in memory (R90). Beside R90: CYC grows by the cost (the spec's D7), PC wraps (its D5), and
the event history (R47; log 1); so in every statement of this section. -/
def Obligations.LdaImmediateInMemory : Prop :=
  ∀ (s : State) (d8 : Byte), s.runState = .running →
    s.mem.read s.pc = 0xA9#8 → s.mem.read (s.pc + 1#16) = d8 →
    step s = .next (loaded .a d8 (executed 2#16 2 [.read s.pc, .read (s.pc + 1#16)] s))

/-- LDA zero page,X, the byte B5 in memory (R92). -/
def Obligations.LdaZeroPageXInMemory : Prop :=
  ∀ (s : State) (d8 : Byte), s.runState = .running →
    s.mem.read s.pc = 0xB5#8 → s.mem.read (s.pc + 1#16) = d8 →
    let ea := zext16 (d8 + s.x)
    step s = .next (loaded .a (s.mem.read ea)
      (executed 2#16 4 [.read s.pc, .read (s.pc + 1#16), .read ea] s))

/-- LDX and LDY immediate (R98, R103; bytes: the spec's D10). -/
def Obligations.LdxLdyImmediateInMemory : Prop :=
  ∀ (s : State) (op : Byte) (r : DataReg) (d8 : Byte), (op, r) ∈ [(0xA2#8, .x), (0xA0#8, .y)] →
    s.runState = .running → s.mem.read s.pc = op → s.mem.read (s.pc + 1#16) = d8 →
    step s = .next (loaded r d8 (executed 2#16 2 [.read s.pc, .read (s.pc + 1#16)] s))

/-- Zero page loads (R91, R99, R104; bytes: D10). -/
def Obligations.ZeroPageLoadsInMemory : Prop :=
  ∀ (s : State) (op : Byte) (r : DataReg) (d8 : Byte),
    (op, r) ∈ [(0xA5#8, .a), (0xA6#8, .x), (0xA4#8, .y)] →
    s.runState = .running → s.mem.read s.pc = op → s.mem.read (s.pc + 1#16) = d8 →
    let ea := zext16 d8
    step s = .next (loaded r (s.mem.read ea)
      (executed 2#16 3 [.read s.pc, .read (s.pc + 1#16), .read ea] s))

/-- LDX zero page,Y and LDY zero page,X (R100, R105; bytes and modes: D10, D11). -/
def Obligations.LdxLdyZeroPageIndexedInMemory : Prop :=
  ∀ (s : State) (op : Byte) (r index : DataReg) (d8 : Byte),
    (op, r, index) ∈ [(0xB6#8, .x, .y), (0xB4#8, .y, .x)] →
    s.runState = .running → s.mem.read s.pc = op → s.mem.read (s.pc + 1#16) = d8 →
    let ea := zext16 (d8 + getReg index s)
    step s = .next (loaded r (s.mem.read ea)
      (executed 2#16 4 [.read s.pc, .read (s.pc + 1#16), .read ea] s))

/-- Absolute loads (R93, R101, R106; bytes: D10). -/
def Obligations.AbsoluteLoadsInMemory : Prop :=
  ∀ (s : State) (op : Byte) (r : DataReg) (lo hi : Byte),
    (op, r) ∈ [(0xAD#8, .a), (0xAE#8, .x), (0xAC#8, .y)] →
    s.runState = .running → s.mem.read s.pc = op →
    s.mem.read (s.pc + 1#16) = lo → s.mem.read (s.pc + 2#16) = hi →
    let ea := effAddr lo hi
    step s = .next (loaded r (s.mem.read ea)
      (executed 3#16 4 [.read s.pc, .read (s.pc + 1#16), .read (s.pc + 2#16), .read ea] s))

/-- Absolute indexed loads (R94, R95, R102, R107; bytes and modes: D10, D11; wrap past 0xFFFF: D5). -/
def Obligations.AbsoluteIndexedLoadsInMemory : Prop :=
  ∀ (s : State) (op : Byte) (r index : DataReg) (lo hi : Byte),
    (op, r, index) ∈ [(0xBD#8, .a, .x), (0xB9#8, .a, .y), (0xBE#8, .x, .y), (0xBC#8, .y, .x)] →
    s.runState = .running → s.mem.read s.pc = op →
    s.mem.read (s.pc + 1#16) = lo → s.mem.read (s.pc + 2#16) = hi →
    let ea := effAddr lo hi + zext16 (getReg index s)
    step s = .next (loaded r (s.mem.read ea)
      (executed 3#16 (if 255 < lo.toNat + (getReg index s).toNat then 5 else 4)
        [.read s.pc, .read (s.pc + 1#16), .read (s.pc + 2#16), .read ea] s))

/-- LDA `(zp,X)` (R96; byte: D10; pointer: D6, D14). -/
def Obligations.LdaIndexedIndirectInMemory : Prop :=
  ∀ (s : State) (d8 : Byte), s.runState = .running →
    s.mem.read s.pc = 0xA1#8 → s.mem.read (s.pc + 1#16) = d8 →
    let ptr := zext16 (d8 + s.x)
    let ea := effAddr (s.mem.read ptr) (s.mem.read (ptr + 1#16))
    step s = .next (loaded .a (s.mem.read ea)
      (executed 2#16 6 [.read s.pc, .read (s.pc + 1#16), .read ptr, .read (ptr + 1#16), .read ea] s))

/-- LDA `(zp),Y` (R97; byte: D10; pointer: D6, D14). -/
def Obligations.LdaIndirectIndexedInMemory : Prop :=
  ∀ (s : State) (d8 : Byte), s.runState = .running →
    s.mem.read s.pc = 0xB1#8 → s.mem.read (s.pc + 1#16) = d8 →
    let lo := s.mem.read (zext16 d8)
    let ea := effAddr lo (s.mem.read (zext16 d8 + 1#16)) + zext16 s.y
    step s = .next (loaded .a (s.mem.read ea)
      (executed 2#16 (if 255 < lo.toNat + s.y.toNat then 6 else 5)
        [.read s.pc, .read (s.pc + 1#16), .read (zext16 d8), .read (zext16 d8 + 1#16), .read ea] s))

/-- JMP absolute and the placeholder (R110, R111; bytes: D10, D22). -/
def Obligations.JumpsInMemory : Prop :=
  ∀ (s : State) (lo hi : Byte), s.runState = .running →
    s.mem.read (s.pc + 1#16) = lo → s.mem.read (s.pc + 2#16) = hi →
    (s.mem.read s.pc = 0x4C#8 → step s = .next
      { executed 3#16 3 [.read s.pc, .read (s.pc + 1#16), .read (s.pc + 2#16)] s with pc := effAddr lo hi }) ∧
    (s.mem.read s.pc = 0x6C#8 → step s = .next (executed 1#16 1 [.read s.pc] s))

/-- JSR (R112; byte: D10; D2, D3, D5). Its operand is fetched before its stack cells are written. -/
def Obligations.JsrInMemory : Prop :=
  ∀ (s : State) (lo hi : Byte), s.runState = .running → s.mem.read s.pc = 0x20#8 →
    s.mem.read (s.pc + 1#16) = lo → s.mem.read (s.pc + 2#16) = hi →
    let saddr := 0x0100#16 + zext16 s.sp
    step s = .next
      { executed 3#16 6 [.read s.pc, .read (s.pc + 1#16), .read (s.pc + 2#16),
                         .write saddr, .write (saddr - 1#16)] s with
        pc := effAddr lo hi
        sp := s.sp - 1#8
        mem := (s.mem.write saddr (loByte (s.pc + 2#16))).write (saddr - 1#16) (hiByte (s.pc + 2#16)) }

/-- Any other byte: one byte, one cycle, `diag` is the byte, nothing else (R120; cost and report: the spec's D8). -/
def Obligations.UnhandledByteInMemory : Prop :=
  ∀ (s : State) (op : Byte), s.runState = .running → s.mem.read s.pc = op → op ∉ handledBytes →
    step s = .next { executed 1#16 1 [.read s.pc] s with diag := some op }

/-! ## Whole-machine rules -/

/-- The frame of every instruction. A register other than a load's destination, the flags of an instruction that is no
load, V, B, D, I and C of any, SP but for JSR, every byte of memory but JSR's two cells (the first at the address JSR
stores to, the second one below), CYC, `run_state`, and `diag` but for an unhandled opcode, are as before. -/
def Obligations.FrameOfEveryInstruction : Prop :=
  ∀ (i : Instr) (s t : State), exec i s = .next t →
    (∀ r, loadDest i ≠ some r → getReg r t = getReg r s) ∧
    (loadDest i = none → t.p = s.p) ∧
    (t.p.v = s.p.v ∧ t.p.b = s.p.b ∧ t.p.d = s.p.d ∧ t.p.i = s.p.i ∧ t.p.c = s.p.c) ∧
    ((∀ target, i ≠ .jsr target) → t.sp = s.sp) ∧
    (∀ q : Word, ((∃ target, i = .jsr target) → q ≠ stackAddr s.sp ∧ q ≠ stackAddr s.sp - 1#16) →
      t.mem.read q = s.mem.read q) ∧
    t.cycTotal = s.cycTotal ∧ t.runState = s.runState ∧ (i.entry ≠ .unhandled → t.diag = s.diag)

/-- R17: a flag an instruction does not write keeps its value: all seven of an instruction that is no load, V, B, D, I
and C of a load, whose Z and N are those of the byte loaded. It is no invariant of the state: after reset Z = 0 although
A, X and Y are zero, and Z and N do not follow a register the host writes. -/
def Obligations.FlagsNotWrittenAreKept : Prop :=
  (∀ s t : State, step s = .next t →
    (t.p.v = s.p.v ∧ t.p.b = s.p.b ∧ t.p.d = s.p.d ∧ t.p.i = s.p.i ∧ t.p.c = s.p.c) ∧
    (loadDest (fetchInstr s) = none → t.p = s.p) ∧
    ∀ r, loadDest (fetchInstr s) = some r →
      (t.p.z = true ↔ getReg r t = 0x00#8) ∧ t.p.n = (getReg r t).getLsbD 7) ∧
  (∀ s : State, ∃ t, transact .reset s = .next t ∧ t.a = 0x00#8 ∧ t.x = 0x00#8 ∧ t.y = 0x00#8 ∧ t.p.z = false) ∧
  ∀ (s : State) (r : DataReg) (v : Byte), s.runState = .running →
    ∃ t, transact (.write (.reg r v)) s = .next t ∧ getReg r t = v ∧ t.p = s.p

/-- The postcondition of every load, after an execute (R108). Which address is "the resolved effective address" is the
modes' rules, R76 to R84, and with them the spec's own decisions: 16-bit sums wrap (D5, log 7), a pointer's high byte is
at the next 16-bit address (D6, log 8) and its low byte comes first (D14, log 8). -/
def Obligations.LoadPostcondition : Prop :=
  ∀ (s t : State) (r : DataReg), loadDest (fetchInstr s) = some r → step s = .next t →
    ∃ ea, effectiveAddr (fetchInstr s) s = some ea ∧ getReg r t = s.mem.read ea ∧
      (t.p.z = true ↔ getReg r t = 0x00#8) ∧ t.p.n = (getReg r t).getLsbD 7 ∧
      t.p.v = s.p.v ∧ t.p.d = s.p.d ∧ t.p.i = s.p.i ∧ t.p.c = s.p.c ∧ t.p.b = s.p.b

/-- A load run twice, PC put back between, gives the same flags both times (R109, which the spec derives). -/
def Obligations.LoadTwiceGivesTheSameFlags : Prop :=
  ∀ (i : Instr) (s t u : State), (loadDest i).isSome = true → exec i s = .next t →
    exec i { t with pc := s.pc } = .next u → u.p = t.p

/-- The cycle table: the cost depends only on the opcode byte and, in three modes, on the page crossing (R154, R88;
bytes: D10; one cycle for an unhandled byte: D8). -/
def Obligations.CyclesFollowTheTable : Prop :=
  ∀ (s t : State), step s = .next t → t.cyc = cyclesOf (s.mem.read s.pc) (indexCrosses (fetchInstr s) s)

/-- R144: an execute of a Running core always completes, costs 1 to 6 cycles, and reports nothing or the opcode byte;
the core stays Running and CYC grows by the cost (R19). `diag` is set exactly for a byte outside the map (R120). -/
def Obligations.ExecuteAlwaysCompletes : Prop :=
  ∀ s : State, s.runState = .running → ∃ t, step s = .next t ∧
    1 ≤ t.cyc ∧ t.cyc ≤ 6 ∧ t.cycTotal = s.cycTotal + t.cyc ∧ t.runState = .running ∧
    t.diag = (if s.mem.read s.pc ∈ handledBytes then none else some (s.mem.read s.pc)) ∧
    (Clean t ↔ s.mem.read s.pc ∈ handledBytes)

/-- The cost of an instruction is its memory accesses and its internal steps (R70, which the spec derives). -/
def Obligations.CyclesAreAccessesAndInternalSteps : Prop :=
  ∀ (s t : State), step s = .next t → t.cyc = t.events.length + internalTicks (fetchInstr s) s

/-- How each instruction advances PC (R13; modulo 65,536: D5). -/
def Obligations.PcAdvancesAsTheTableSays : Prop :=
  ∀ (s t : State), step s = .next t → t.pc = nextPc (fetchInstr s) s

/-- The memory events of an execute are those of the table, in its order, and no others (R47, which the spec derives;
no dummy accesses: D18). -/
def Obligations.MemoryEventsAreThoseOfTheTable : Prop :=
  ∀ (s t : State), step s = .next t → t.events = expectedEvents (fetchInstr s) s

/-- Nothing in the core reads A, a flag, a cycle counter or the outputs of the last execute: two Running states that
agree on the rest take steps that agree on all but what they differed in (R10, R16, R19). -/
def Obligations.StepIgnoresAccumulatorFlagsAndCounters : Prop :=
  ∀ (s s' t : State), step s = .next t →
    s'.x = s.x → s'.y = s.y → s'.sp = s.sp → s'.pc = s.pc → s'.mem = s.mem → s'.runState = s.runState →
    ∃ t', step s' = .next t' ∧
      t'.x = t.x ∧ t'.y = t.y ∧ t'.sp = t.sp ∧ t'.pc = t.pc ∧ t'.mem = t.mem ∧ t'.runState = t.runState ∧
      t'.cyc = t.cyc ∧ t'.diag = t.diag ∧ t'.events = t.events ∧ t'.cycTotal = s'.cycTotal + t.cyc ∧
      (loadDest (fetchInstr s) = some .a → t'.a = t.a) ∧
      (loadDest (fetchInstr s) ≠ none → t'.p.z = t.p.z ∧ t'.p.n = t.p.n)

/-- Every step keeps the invariant, from every state that has it. The canonical form of memory, and the event history with
its fresh start at each execute (log 1, DESIGN CHOICE), are the model's own; the cost of an unhandled byte is the spec's
D8, the unbounded CYC its D7. -/
def Obligations.StepKeepsTheInvariant : Prop :=
  ∀ s t : State, Machine.Inv s → step s = .next t → Machine.Inv t

/-- The reset state has the invariant: the flags, the two counters and `run_state` as R140 and R23 give them (CYC = 0 and
cyc = 0: the spec's D7), memory all zero (its D4). The clause on events rests on the history being empty at reset, which
neither rule gives: the model's choice (log 1, DESIGN CHOICE). The canonical form of memory is the model's own. -/
def Obligations.ResetHasTheInvariant : Prop := Machine.Inv State.reset

/-- `step`, which decodes first and executes after (log 3), answers what the spec's Execute procedure, which fetches each
byte from memory when it needs it, computes (R145 with R71 to R89, R110 to R112, R120). Both readings hold the spec's own
decisions D2, D3, D5, D6, D8, D10, D11, D14 and D22, so the equality says nothing for them; and both keep the model's event
history, which `Pseudocode.execute` clears first (log 1, DESIGN CHOICE). -/
def Obligations.StepIsTheSpecsExecuteProcedure : Prop :=
  ∀ s : State, s.runState = .running → step s = .next (Pseudocode.execute s)

/-! ## The host's side, and runs -/

/-- A host read answers the cell, register, flag or count it names; a host write changes only what it names, CYC never,
and a host read then answers what was written (R146, R147; which registers the host may write is the spec's D9). -/
def Obligations.HostWriteChangesOnlyWhatItNames : Prop :=
  ∀ s : State, s.runState = .running →
    (∀ w, transact (.write w) s = .next (hostWrite w s)) ∧
    -- what each read answers
    ((∀ q, hostRead (.mem q) s = .next (.byte (s.mem.read q))) ∧
      hostRead .pc s = .next (.word s.pc) ∧ hostRead .sp s = .next (.byte s.sp) ∧
      hostRead (.reg .a) s = .next (.byte s.a) ∧ hostRead (.reg .x) s = .next (.byte s.x) ∧
      hostRead (.reg .y) s = .next (.byte s.y) ∧
      hostRead (.flag .n) s = .next (.bit s.p.n) ∧ hostRead (.flag .v) s = .next (.bit s.p.v) ∧
      hostRead (.flag .b) s = .next (.bit s.p.b) ∧ hostRead (.flag .d) s = .next (.bit s.p.d) ∧
      hostRead (.flag .i) s = .next (.bit s.p.i) ∧ hostRead (.flag .z) s = .next (.bit s.p.z) ∧
      hostRead (.flag .c) s = .next (.bit s.p.c) ∧ hostRead .cycTotal s = .next (.count s.cycTotal)) ∧
    -- what each write changes, and the read after it
    (∀ addr v, ∃ m, hostWrite (.mem addr v) s = { s with mem := m } ∧
      ∀ q, hostRead (.mem q) (hostWrite (.mem addr v) s) = if q = addr then .next (.byte v) else hostRead (.mem q) s) ∧
    (∀ v, hostWrite (.pc v) s = { s with pc := v } ∧ hostRead .pc (hostWrite (.pc v) s) = .next (.word v)) ∧
    (∀ v, hostWrite (.sp v) s = { s with sp := v } ∧ hostRead .sp (hostWrite (.sp v) s) = .next (.byte v)) ∧
    (∀ v, hostWrite (.reg .a v) s = { s with a := v } ∧ hostWrite (.reg .x v) s = { s with x := v } ∧
      hostWrite (.reg .y v) s = { s with y := v }) ∧
    (∀ r v r', hostRead (.reg r') (hostWrite (.reg r v) s) = if r' = r then .next (.byte v) else hostRead (.reg r') s) ∧
    (∀ f b, ∃ p, hostWrite (.flag f b) s = { s with p := p } ∧
      ∀ g, hostRead (.flag g) (hostWrite (.flag f b) s) = if g = f then .next (.bit b) else hostRead (.flag g) s) ∧
    ∀ w, hostRead .cycTotal (hostWrite w s) = hostRead .cycTotal s

/-- Every transaction keeps the canonical form of memory; so every launch state has it, and is Running with CYC = 0
(R157; the form is the model's own). -/
def Obligations.TransactionsKeepMemoryCanonical : Prop :=
  (∀ (tr : Transaction) (s t : State), s.mem.wf = true → transact tr s = .next t → t.mem.wf = true) ∧
  (∀ ws : List HostWrite, (launch ws).mem.wf = true ∧ (launch ws).runState = .running ∧ (launch ws).cycTotal = 0)

/-- The budgeted run stops, has spent at least the target and overshoots by at most 5; Run(0) executes nothing
(R149; the test before each instruction is the spec's D20). -/
def Obligations.BudgetedRunReachesItsTarget : Prop :=
  ∀ (target : Nat) (s : State), s.runState = .running →
    ∃ spent t, runBudget target s = .next (spent, t) ∧ target ≤ spent ∧ spent ≤ target + 5 ∧
      t.cycTotal = s.cycTotal + spent ∧ t.runState = .running ∧ (target = 0 → spent = 0 ∧ t = s)

/-- Memory that reads 0x00 everywhere is an endless run of unhandled-opcode reports, one cycle each, PC counting up and
wrapping (R120's corner case; D5, D8). -/
def Obligations.UnprogrammedMemoryCountsUp : Prop :=
  ∀ (k : Nat) (s : State), s.runState = .running → (∀ q, s.mem.read q = 0x00#8) →
    ∃ t, core.run k s = .next t ∧ t.pc = s.pc + BitVec.ofNat 16 k ∧ t.cycTotal = s.cycTotal + k ∧
      t.a = s.a ∧ t.x = s.x ∧ t.y = s.y ∧ t.sp = s.sp ∧ t.p = s.p ∧ t.mem = s.mem ∧
      (0 < k → t.diag = some 0x00#8 ∧ t.cyc = 1)

/-- The nested-JSR hazard (R151): the second call's low byte overwrites the first call's high byte, unless SP was 0x00
and has wrapped to another cell (D5). `r1` and `r2` are the addresses of the two last bytes; D2 and D3. -/
def Obligations.NestedJsrLosesTheFirstHighByte : Prop :=
  ∀ (s u w : State) (t1 t2 pc2 : Word), exec (.jsr t1) s = .next u → exec (.jsr t2) { u with pc := pc2 } = .next w →
    let r1 := s.pc + 1#16
    let r2 := pc2 + 1#16
    u.mem.read (stackAddr s.sp - 1#16) = hiByte r1 ∧
    w.sp = s.sp - 2#8 ∧
    w.mem.read (stackAddr s.sp) = loByte r1 ∧
    w.mem.read (stackAddr (s.sp - 1#8)) = loByte r2 ∧
    w.mem.read (stackAddr (s.sp - 1#8) - 1#16) = hiByte r2 ∧
    (s.sp ≠ 0x00#8 → w.mem.read (stackAddr s.sp - 1#16) = loByte r2) ∧
    (s.sp = 0x00#8 → w.mem.read (stackAddr s.sp - 1#16) = hiByte r1)

/-- A store is seen by the very next fetch (R45, which the spec derives): a JSR to the lower of its two stack cells
executes its own return word. -/
def Obligations.JsrIntoItsStackWordFetchesIt : Prop :=
  ∀ s t : State, fetchInstr s = .jsr (stackAddr s.sp - 1#16) → step s = .next t →
    fetchInstr t = decodeAt (hiByte (s.pc + 2#16)) (loByte (s.pc + 2#16)) (s.mem.read (stackAddr s.sp + 1#16))
end

