-- ==== Sys2Proof/Laws/Bits.lean ====
section
/-! SUPPORT. What the byte-order and bit-field helpers compute, as numbers. -/

namespace Sys2Proof.Machine

@[simp] theorem zext16_toNat (b : Byte) : (zext16 b).toNat = b.toNat := by
  have := b.isLt
  simp only [zext16, BitVec.toNat_setWidth]
  omega

theorem loByte_toNat (w : Word) : (loByte w).toNat = w.toNat % 256 := by
  simp [loByte, BitVec.extractLsb'_toNat]

theorem hiByte_toNat (w : Word) : (hiByte w).toNat = w.toNat / 256 := by
  have := w.isLt
  simp only [hiByte, BitVec.extractLsb'_toNat, Nat.shiftRight_eq_div_pow]
  omega

/-- R75: the composition is `lo + (hi << 8)` and cannot overflow. -/
theorem effAddr_toNat (lo hi : Byte) : (effAddr lo hi).toNat = lo.toNat + 256 * hi.toNat := by
  have h1 := lo.isLt
  have h2 := hi.isLt
  simp only [effAddr, BitVec.toNat_add, BitVec.toNat_shiftLeft, zext16_toNat, Nat.shiftLeft_eq]
  omega

@[simp] theorem loByte_effAddr (lo hi : Byte) : loByte (effAddr lo hi) = lo := by
  apply BitVec.eq_of_toNat_eq
  have := lo.isLt
  rw [loByte_toNat, effAddr_toNat]
  omega

@[simp] theorem hiByte_effAddr (lo hi : Byte) : hiByte (effAddr lo hi) = hi := by
  apply BitVec.eq_of_toNat_eq
  have := lo.isLt
  rw [hiByte_toNat, effAddr_toNat]
  omega

/-- Splitting a word into its bytes and composing them loses nothing. -/
@[simp] theorem effAddr_split (w : Word) : effAddr (loByte w) (hiByte w) = w := by
  apply BitVec.eq_of_toNat_eq
  rw [effAddr_toNat, loByte_toNat, hiByte_toNat]
  omega

end Sys2Proof.Machine
end

