-- ==== Sys2Proof/Laws/Decode.lean ====
section
/-! SUPPORT. What the decoder's table holds, said once for all 256 bytes. -/

namespace Sys2Proof

/-- A property of all bytes, from its 256 cases. -/
theorem byte_cases {P : Byte → Prop} (h : ∀ n : Fin 256, P (BitVec.ofFin n)) (b : Byte) : P b := h b.toFin

/-- What is right about a table entry of the opcode byte `op`: the instructions it makes have that opcode byte and
exactly the operand bytes it was given. -/
def Shape.fits (op : Byte) : Shape → Prop
  | .f1 i => i.opcode = op ∧ i.operandBytes = []
  | .f2 mk => ∀ d8, (mk d8).opcode = op ∧ (mk d8).operandBytes = [d8]
  | .f3 mk => ∀ w, (mk w).opcode = op ∧ (mk w).operandBytes = [Machine.loByte w, Machine.hiByte w]

/-- Every entry of the table fits its opcode byte (R52, R54, R56). -/
theorem shapeOf_fits (op : Byte) : (shapeOf op).fits op := by
  refine byte_cases (P := fun op => (shapeOf op).fits op) ?_ op
  intro n
  fin_cases n <;> first | exact ⟨rfl, rfl⟩ | exact fun _ => ⟨rfl, rfl⟩

/-- The instruction decoded from an opcode byte has that opcode byte. -/
theorem decodeAt_opcode (op b1 b2 : Byte) : (decodeAt op b1 b2).opcode = op := by
  have h := shapeOf_fits op
  unfold decodeAt
  cases hs : shapeOf op with
  | f1 i => rw [hs] at h; exact h.1
  | f2 mk => rw [hs] at h; exact (h b1).1
  | f3 mk => rw [hs] at h; exact (h _).1

end Sys2Proof
end

