-- ==== Sys2Proof/Laws/Memory.lean ====
section
/-! SUPPORT. The laws of memory: what a read after a write answers, and that every operation keeps the canonical form. -/

namespace Sys2Proof.Machine

theorem word_ne_toNat {a b : Word} : a.toNat ≠ b.toNat ↔ a ≠ b :=
  not_congr BitVec.toNat_inj

theorem Memory.read_dropCell (m : Memory) (k : Nat) (b : Word) :
    (m.dropCell k).read b = if b.toNat = k then unlistedByte else m.read b := by
  induction m with
  | nil => simp [Memory.dropCell, Memory.read]
  | cons c rest ih =>
    obtain ⟨j, w⟩ := c
    simp only [Memory.dropCell] at ih
    by_cases hj : j = k
    · subst hj
      by_cases hb : b.toNat = j
      · simpa [Memory.dropCell, hb] using ih
      · have hb' : ¬ j = b.toNat := fun h => hb h.symm
        simpa [Memory.dropCell, Memory.read, hb, hb'] using ih
    · by_cases hb : j = b.toNat
      · have : ¬ b.toNat = k := fun h => hj (hb.trans h)
        simp [Memory.dropCell, Memory.read, hb, this]
      · simpa [Memory.dropCell, Memory.read, hj, hb] using ih

theorem Memory.read_putCell (m : Memory) (k : Nat) (v : Byte) (b : Word) (h : ∀ c ∈ m, c.1 ≠ k) :
    (m.putCell k v).read b = if b.toNat = k then v else m.read b := by
  induction m with
  | nil => simp [Memory.putCell, Memory.read, eq_comm]
  | cons c rest ih =>
    obtain ⟨j, w⟩ := c
    have hj : j ≠ k := h (j, w) (by simp)
    have ih := ih fun c hc => h c (by simp [hc])
    by_cases hlt : k < j
    · simp [Memory.putCell, Memory.read, hlt, eq_comm]
    · by_cases hb : j = b.toNat
      · have : ¬ b.toNat = k := fun h => hj (hb.trans h)
        simp only [Memory.putCell, hlt, ↓reduceIte]
        simp [Memory.read, hb, this]
      · simp [Memory.putCell, Memory.read, hlt, hb, ih]

theorem Memory.not_mem_dropCell (m : Memory) (k : Nat) : ∀ c ∈ m.dropCell k, c.1 ≠ k := by
  intro c hc
  simpa using (List.mem_filter.mp hc).2

/-- R32, R33: after a write, the cell written reads as the byte written and every other cell reads as before. -/
@[simp] theorem Memory.read_write (m : Memory) (a b : Word) (v : Byte) :
    (m.write a v).read b = if b = a then v else m.read b := by
  have key : (b.toNat = a.toNat) = (b = a) := propext BitVec.toNat_inj
  unfold Memory.write
  split
  · rename_i hv
    simp only [Memory.read_dropCell, key, hv]
  · rw [Memory.read_putCell _ _ _ _ (Memory.not_mem_dropCell m a.toNat), Memory.read_dropCell]
    simp only [key]
    split <;> rfl

theorem Memory.wfFrom_cons (low k : Nat) (v : Byte) (rest : Memory) :
    Memory.wfFrom low ((k, v) :: rest) = true ↔
      low ≤ k ∧ k < 65536 ∧ v ≠ unlistedByte ∧ Memory.wfFrom (k + 1) rest = true := by
  simp [Memory.wfFrom, and_assoc]

theorem Memory.wfFrom_mono {low low' : Nat} (h : low' ≤ low) :
    ∀ {m : Memory}, Memory.wfFrom low m = true → Memory.wfFrom low' m = true
  | [], _ => rfl
  | (k, v) :: rest, hm => by
    rw [Memory.wfFrom_cons] at hm ⊢
    exact ⟨by omega, hm.2⟩

theorem Memory.wfFrom_dropCell (k : Nat) :
    ∀ {m : Memory} {low : Nat}, Memory.wfFrom low m = true → Memory.wfFrom low (m.dropCell k) = true
  | [], _, _ => rfl
  | (j, w) :: rest, low, hm => by
    rw [Memory.wfFrom_cons] at hm
    obtain ⟨h1, h2, h3, h4⟩ := hm
    have ih := Memory.wfFrom_dropCell k h4
    by_cases hj : j = k
    · have : Memory.dropCell ((j, w) :: rest) k = Memory.dropCell rest k := by simp [Memory.dropCell, hj]
      rw [this]
      exact Memory.wfFrom_mono (by omega) ih
    · have : Memory.dropCell ((j, w) :: rest) k = (j, w) :: Memory.dropCell rest k := by simp [Memory.dropCell, hj]
      rw [this, Memory.wfFrom_cons]
      exact ⟨h1, h2, h3, ih⟩

theorem Memory.wfFrom_putCell {k : Nat} {v : Byte} (hk : k < 65536) (hv : v ≠ unlistedByte) :
    ∀ {m : Memory} {low : Nat}, low ≤ k → (∀ c ∈ m, c.1 ≠ k) → Memory.wfFrom low m = true →
      Memory.wfFrom low (m.putCell k v) = true
  | [], low, hlow, _, _ => by
    show Memory.wfFrom low [(k, v)] = true
    rw [Memory.wfFrom_cons]
    exact ⟨hlow, hk, hv, rfl⟩
  | (j, w) :: rest, low, hlow, hne, hm => by
    rw [Memory.wfFrom_cons] at hm
    obtain ⟨h1, h2, h3, h4⟩ := hm
    have hj : j ≠ k := hne (j, w) (by simp)
    by_cases hlt : k < j
    · simp only [Memory.putCell, hlt, ↓reduceIte, Memory.wfFrom_cons]
      exact ⟨hlow, hk, hv, by omega, h2, h3, h4⟩
    · simp only [Memory.putCell, hlt, ↓reduceIte, Memory.wfFrom_cons]
      exact ⟨h1, h2, h3, Memory.wfFrom_putCell hk hv (by omega) (fun c hc => hne c (by simp [hc])) h4⟩

/-- A write keeps the canonical form. -/
theorem Memory.wf_write (m : Memory) (a : Word) (v : Byte) (h : m.wf = true) : (m.write a v).wf = true := by
  unfold Memory.write
  split
  · exact Memory.wfFrom_dropCell _ h
  · rename_i hv
    exact Memory.wfFrom_putCell a.isLt hv (Nat.zero_le _) (Memory.not_mem_dropCell m a.toNat) (Memory.wfFrom_dropCell _ h)

/-- Memory initialise leaves the canonical form. -/
theorem Memory.wf_init : Memory.init.wf = true := rfl

/-- R35, MEM_SEED = none: after memory initialise every cell reads 0x00. -/
@[simp] theorem Memory.read_init (a : Word) : Memory.init.read a = 0x00#8 := rfl

end Sys2Proof.Machine
end

