-- ==== Sys2Proof/Laws/State.lean ====
section
/-! SUPPORT. One lemma per field per update of the state, each true by unfolding, so that no later proof opens a record
update. `passWord`, `writeWord` and the `operand…` functions have their whole effect said once in Laws/Ops.lean. -/

namespace Sys2Proof.Machine

@[simp] theorem tick_a (n : Nat) (s : State) : (tick n s).a = s.a := rfl
@[simp] theorem tick_x (n : Nat) (s : State) : (tick n s).x = s.x := rfl
@[simp] theorem tick_y (n : Nat) (s : State) : (tick n s).y = s.y := rfl
@[simp] theorem tick_sp (n : Nat) (s : State) : (tick n s).sp = s.sp := rfl
@[simp] theorem tick_pc (n : Nat) (s : State) : (tick n s).pc = s.pc := rfl
@[simp] theorem tick_p (n : Nat) (s : State) : (tick n s).p = s.p := rfl
@[simp] theorem tick_mem (n : Nat) (s : State) : (tick n s).mem = s.mem := rfl
@[simp] theorem tick_cycTotal (n : Nat) (s : State) : (tick n s).cycTotal = s.cycTotal := rfl
@[simp] theorem tick_cyc (n : Nat) (s : State) : (tick n s).cyc = s.cyc + n := rfl
@[simp] theorem tick_runState (n : Nat) (s : State) : (tick n s).runState = s.runState := rfl
@[simp] theorem tick_diag (n : Nat) (s : State) : (tick n s).diag = s.diag := rfl
@[simp] theorem tick_events (n : Nat) (s : State) : (tick n s).events = s.events := rfl

@[simp] theorem note_a (e : MemEvent) (s : State) : (note e s).a = s.a := rfl
@[simp] theorem note_x (e : MemEvent) (s : State) : (note e s).x = s.x := rfl
@[simp] theorem note_y (e : MemEvent) (s : State) : (note e s).y = s.y := rfl
@[simp] theorem note_sp (e : MemEvent) (s : State) : (note e s).sp = s.sp := rfl
@[simp] theorem note_pc (e : MemEvent) (s : State) : (note e s).pc = s.pc := rfl
@[simp] theorem note_p (e : MemEvent) (s : State) : (note e s).p = s.p := rfl
@[simp] theorem note_mem (e : MemEvent) (s : State) : (note e s).mem = s.mem := rfl
@[simp] theorem note_cycTotal (e : MemEvent) (s : State) : (note e s).cycTotal = s.cycTotal := rfl
@[simp] theorem note_cyc (e : MemEvent) (s : State) : (note e s).cyc = s.cyc := rfl
@[simp] theorem note_runState (e : MemEvent) (s : State) : (note e s).runState = s.runState := rfl
@[simp] theorem note_diag (e : MemEvent) (s : State) : (note e s).diag = s.diag := rfl
@[simp] theorem note_events (e : MemEvent) (s : State) : (note e s).events = s.events ++ [e] := rfl

@[simp] theorem passByte_a (s : State) : (passByte s).a = s.a := rfl
@[simp] theorem passByte_x (s : State) : (passByte s).x = s.x := rfl
@[simp] theorem passByte_y (s : State) : (passByte s).y = s.y := rfl
@[simp] theorem passByte_sp (s : State) : (passByte s).sp = s.sp := rfl
@[simp] theorem passByte_pc (s : State) : (passByte s).pc = s.pc + 1#16 := rfl
@[simp] theorem passByte_p (s : State) : (passByte s).p = s.p := rfl
@[simp] theorem passByte_mem (s : State) : (passByte s).mem = s.mem := rfl
@[simp] theorem passByte_cycTotal (s : State) : (passByte s).cycTotal = s.cycTotal := rfl
@[simp] theorem passByte_cyc (s : State) : (passByte s).cyc = s.cyc + 1 := rfl
@[simp] theorem passByte_runState (s : State) : (passByte s).runState = s.runState := rfl
@[simp] theorem passByte_diag (s : State) : (passByte s).diag = s.diag := rfl
@[simp] theorem passByte_events (s : State) : (passByte s).events = s.events ++ [.read s.pc] := rfl

@[simp] theorem memWrite_a (q : Word) (v : Byte) (s : State) : (memWrite q v s).a = s.a := rfl
@[simp] theorem memWrite_x (q : Word) (v : Byte) (s : State) : (memWrite q v s).x = s.x := rfl
@[simp] theorem memWrite_y (q : Word) (v : Byte) (s : State) : (memWrite q v s).y = s.y := rfl
@[simp] theorem memWrite_sp (q : Word) (v : Byte) (s : State) : (memWrite q v s).sp = s.sp := rfl
@[simp] theorem memWrite_pc (q : Word) (v : Byte) (s : State) : (memWrite q v s).pc = s.pc := rfl
@[simp] theorem memWrite_p (q : Word) (v : Byte) (s : State) : (memWrite q v s).p = s.p := rfl
@[simp] theorem memWrite_mem (q : Word) (v : Byte) (s : State) : (memWrite q v s).mem = s.mem.write q v := rfl
@[simp] theorem memWrite_cycTotal (q : Word) (v : Byte) (s : State) : (memWrite q v s).cycTotal = s.cycTotal := rfl
@[simp] theorem memWrite_cyc (q : Word) (v : Byte) (s : State) : (memWrite q v s).cyc = s.cyc := rfl
@[simp] theorem memWrite_runState (q : Word) (v : Byte) (s : State) : (memWrite q v s).runState = s.runState := rfl
@[simp] theorem memWrite_diag (q : Word) (v : Byte) (s : State) : (memWrite q v s).diag = s.diag := rfl
@[simp] theorem memWrite_events (q : Word) (v : Byte) (s : State) : (memWrite q v s).events = s.events ++ [.write q] := rfl

@[simp] theorem readByte_a (q : Word) (s : State) : (readByte q s).2.a = s.a := rfl
@[simp] theorem readByte_x (q : Word) (s : State) : (readByte q s).2.x = s.x := rfl
@[simp] theorem readByte_y (q : Word) (s : State) : (readByte q s).2.y = s.y := rfl
@[simp] theorem readByte_sp (q : Word) (s : State) : (readByte q s).2.sp = s.sp := rfl
@[simp] theorem readByte_pc (q : Word) (s : State) : (readByte q s).2.pc = s.pc := rfl
@[simp] theorem readByte_p (q : Word) (s : State) : (readByte q s).2.p = s.p := rfl
@[simp] theorem readByte_mem (q : Word) (s : State) : (readByte q s).2.mem = s.mem := rfl
@[simp] theorem readByte_cycTotal (q : Word) (s : State) : (readByte q s).2.cycTotal = s.cycTotal := rfl
@[simp] theorem readByte_cyc (q : Word) (s : State) : (readByte q s).2.cyc = s.cyc + 1 := rfl
@[simp] theorem readByte_runState (q : Word) (s : State) : (readByte q s).2.runState = s.runState := rfl
@[simp] theorem readByte_diag (q : Word) (s : State) : (readByte q s).2.diag = s.diag := rfl
@[simp] theorem readByte_events (q : Word) (s : State) : (readByte q s).2.events = s.events ++ [.read q] := rfl

@[simp] theorem setZN_a (v : Byte) (s : State) : (setZN v s).a = s.a := rfl
@[simp] theorem setZN_x (v : Byte) (s : State) : (setZN v s).x = s.x := rfl
@[simp] theorem setZN_y (v : Byte) (s : State) : (setZN v s).y = s.y := rfl
@[simp] theorem setZN_sp (v : Byte) (s : State) : (setZN v s).sp = s.sp := rfl
@[simp] theorem setZN_pc (v : Byte) (s : State) : (setZN v s).pc = s.pc := rfl
@[simp] theorem setZN_p (v : Byte) (s : State) : (setZN v s).p = { s.p with z := zeroFlag v, n := negativeFlag v } := rfl
@[simp] theorem setZN_mem (v : Byte) (s : State) : (setZN v s).mem = s.mem := rfl
@[simp] theorem setZN_cycTotal (v : Byte) (s : State) : (setZN v s).cycTotal = s.cycTotal := rfl
@[simp] theorem setZN_cyc (v : Byte) (s : State) : (setZN v s).cyc = s.cyc := rfl
@[simp] theorem setZN_runState (v : Byte) (s : State) : (setZN v s).runState = s.runState := rfl
@[simp] theorem setZN_diag (v : Byte) (s : State) : (setZN v s).diag = s.diag := rfl
@[simp] theorem setZN_events (v : Byte) (s : State) : (setZN v s).events = s.events := rfl

@[simp] theorem raiseUnhandled_a (op : Byte) (s : State) : (raiseUnhandled op s).a = s.a := rfl
@[simp] theorem raiseUnhandled_x (op : Byte) (s : State) : (raiseUnhandled op s).x = s.x := rfl
@[simp] theorem raiseUnhandled_y (op : Byte) (s : State) : (raiseUnhandled op s).y = s.y := rfl
@[simp] theorem raiseUnhandled_sp (op : Byte) (s : State) : (raiseUnhandled op s).sp = s.sp := rfl
@[simp] theorem raiseUnhandled_pc (op : Byte) (s : State) : (raiseUnhandled op s).pc = s.pc := rfl
@[simp] theorem raiseUnhandled_p (op : Byte) (s : State) : (raiseUnhandled op s).p = s.p := rfl
@[simp] theorem raiseUnhandled_mem (op : Byte) (s : State) : (raiseUnhandled op s).mem = s.mem := rfl
@[simp] theorem raiseUnhandled_cycTotal (op : Byte) (s : State) : (raiseUnhandled op s).cycTotal = s.cycTotal := rfl
@[simp] theorem raiseUnhandled_cyc (op : Byte) (s : State) : (raiseUnhandled op s).cyc = s.cyc := rfl
@[simp] theorem raiseUnhandled_runState (op : Byte) (s : State) : (raiseUnhandled op s).runState = s.runState := rfl
@[simp] theorem raiseUnhandled_diag (op : Byte) (s : State) : (raiseUnhandled op s).diag = some op := rfl
@[simp] theorem raiseUnhandled_events (op : Byte) (s : State) : (raiseUnhandled op s).events = s.events := rfl

@[simp] theorem beginExecute_a (s : State) : (beginExecute s).a = s.a := rfl
@[simp] theorem beginExecute_x (s : State) : (beginExecute s).x = s.x := rfl
@[simp] theorem beginExecute_y (s : State) : (beginExecute s).y = s.y := rfl
@[simp] theorem beginExecute_sp (s : State) : (beginExecute s).sp = s.sp := rfl
@[simp] theorem beginExecute_pc (s : State) : (beginExecute s).pc = s.pc + 1#16 := rfl
@[simp] theorem beginExecute_p (s : State) : (beginExecute s).p = s.p := rfl
@[simp] theorem beginExecute_mem (s : State) : (beginExecute s).mem = s.mem := rfl
@[simp] theorem beginExecute_cycTotal (s : State) : (beginExecute s).cycTotal = s.cycTotal := rfl
@[simp] theorem beginExecute_cyc (s : State) : (beginExecute s).cyc = 1 := Nat.zero_add 1
@[simp] theorem beginExecute_runState (s : State) : (beginExecute s).runState = s.runState := rfl
@[simp] theorem beginExecute_diag (s : State) : (beginExecute s).diag = none := rfl
@[simp] theorem beginExecute_events (s : State) : (beginExecute s).events = [.read s.pc] := rfl

@[simp] theorem endExecute_a (s : State) : (endExecute s).a = s.a := rfl
@[simp] theorem endExecute_x (s : State) : (endExecute s).x = s.x := rfl
@[simp] theorem endExecute_y (s : State) : (endExecute s).y = s.y := rfl
@[simp] theorem endExecute_sp (s : State) : (endExecute s).sp = s.sp := rfl
@[simp] theorem endExecute_pc (s : State) : (endExecute s).pc = s.pc := rfl
@[simp] theorem endExecute_p (s : State) : (endExecute s).p = s.p := rfl
@[simp] theorem endExecute_mem (s : State) : (endExecute s).mem = s.mem := rfl
@[simp] theorem endExecute_cycTotal (s : State) : (endExecute s).cycTotal = s.cycTotal + s.cyc := rfl
@[simp] theorem endExecute_cyc (s : State) : (endExecute s).cyc = s.cyc := rfl
@[simp] theorem endExecute_runState (s : State) : (endExecute s).runState = s.runState := rfl
@[simp] theorem endExecute_diag (s : State) : (endExecute s).diag = s.diag := rfl
@[simp] theorem endExecute_events (s : State) : (endExecute s).events = s.events := rfl

@[simp] theorem readByte_value (q : Word) (s : State) : (readByte q s).1 = s.mem.read q := rfl

@[simp] theorem fetchByte_value (s : State) : (fetchByte s).1 = s.mem.read s.pc := rfl

@[simp] theorem fetchByte_state (s : State) : (fetchByte s).2 = passByte s := rfl

@[simp] theorem fetchWord_state (s : State) : (fetchWord s).2 = passWord s := rfl

/-- Writing a general register and reading one back (spec/10_state.md R10). -/
@[simp] theorem getReg_setReg (r q : DataReg) (v : Byte) (s : State) :
    getReg q (setReg r v s) = if q = r then v else getReg q s := by
  cases r <;> cases q <;> rfl

@[simp] theorem setReg_a (r : DataReg) (v : Byte) (s : State) : (setReg r v s).a = if r = .a then v else s.a := by cases r <;> rfl
@[simp] theorem setReg_x (r : DataReg) (v : Byte) (s : State) : (setReg r v s).x = if r = .x then v else s.x := by cases r <;> rfl
@[simp] theorem setReg_y (r : DataReg) (v : Byte) (s : State) : (setReg r v s).y = if r = .y then v else s.y := by cases r <;> rfl
@[simp] theorem setReg_sp (r : DataReg) (v : Byte) (s : State) : (setReg r v s).sp = s.sp := by cases r <;> rfl
@[simp] theorem setReg_pc (r : DataReg) (v : Byte) (s : State) : (setReg r v s).pc = s.pc := by cases r <;> rfl
@[simp] theorem setReg_p (r : DataReg) (v : Byte) (s : State) : (setReg r v s).p = s.p := by cases r <;> rfl
@[simp] theorem setReg_mem (r : DataReg) (v : Byte) (s : State) : (setReg r v s).mem = s.mem := by cases r <;> rfl
@[simp] theorem setReg_cycTotal (r : DataReg) (v : Byte) (s : State) : (setReg r v s).cycTotal = s.cycTotal := by cases r <;> rfl
@[simp] theorem setReg_cyc (r : DataReg) (v : Byte) (s : State) : (setReg r v s).cyc = s.cyc := by cases r <;> rfl
@[simp] theorem setReg_runState (r : DataReg) (v : Byte) (s : State) : (setReg r v s).runState = s.runState := by cases r <;> rfl
@[simp] theorem setReg_diag (r : DataReg) (v : Byte) (s : State) : (setReg r v s).diag = s.diag := by cases r <;> rfl
@[simp] theorem setReg_events (r : DataReg) (v : Byte) (s : State) : (setReg r v s).events = s.events := by cases r <;> rfl

end Sys2Proof.Machine
end

