-- ==== Sys2Proof/Laws/Ops.lean ====
section
/-! SUPPORT. Everything each shared operation does, said once as the state it answers, for later proofs to cite. -/

namespace Sys2Proof.Machine

@[simp] theorem word_add_one_add_one (w : Word) : w + 1#16 + 1#16 = w + 2#16 := by
  rw [BitVec.add_assoc]; rfl

@[simp] theorem word_add_one_add_two (w : Word) : w + 1#16 + 2#16 = w + 3#16 := by
  rw [BitVec.add_assoc]; rfl

@[simp] theorem word_add_three_sub_one (w : Word) : w + 3#16 - 1#16 = w + 2#16 := by
  bv_omega

/-- One more cycle exactly on a page crossing (R85). -/
theorem tickIfCrossed_eq (base ea : Word) (s : State) :
    tickIfCrossed base ea s = { s with cyc := s.cyc + if crossed base ea then 1 else 0 } := by
  unfold tickIfCrossed
  split <;> rfl

/-- R72 on the state: two bytes further, two cycles, two reads. -/
theorem passWord_eq (s : State) :
    passWord s = { s with pc := s.pc + 2#16, cyc := s.cyc + 2,
                          events := s.events ++ [.read s.pc, .read (s.pc + 1#16)] } := by
  simp [passWord, fetchWord, fetchByte, tick, note]

/-- R72 on the value: the first byte is the low one. -/
theorem fetchWord_value (s : State) :
    (fetchWord s).1 = effAddr (s.mem.read s.pc) (s.mem.read (s.pc + 1#16)) := rfl

/-- R34: two cells written, the low byte at the given address and the high byte below it, two cycles. -/
theorem writeWord_eq (value saddr : Word) (s : State) :
    writeWord value saddr s =
      { s with mem := (s.mem.write saddr (loByte value)).write (saddr - 1#16) (hiByte value), cyc := s.cyc + 2,
               events := s.events ++ [.write saddr, .write (saddr - 1#16)] } := by
  simp [writeWord, memWrite, tick, note]

/-- Reading a pointer answers the address it holds and costs two reads (R83, R84). -/
theorem readPtr_eq (ptr : Word) (s : State) :
    readPtr ptr s = (ptrTarget s.mem ptr,
      { s with cyc := s.cyc + 2, events := s.events ++ [.read ptr, .read (ptrHighAddr ptr)] }) := by
  simp [readPtr, readByte, ptrTarget, tick, note]

theorem operandImm_eq (d8 : Byte) (s : State) :
    operandImm d8 s = (d8, { s with pc := s.pc + 1#16, cyc := s.cyc + 1, events := s.events ++ [.read s.pc] }) := rfl

theorem operandZp_eq (d8 : Byte) (s : State) :
    operandZp d8 s = (s.mem.read (eaZp d8),
      { s with pc := s.pc + 1#16, cyc := s.cyc + 2, events := s.events ++ [.read s.pc, .read (eaZp d8)] }) := by
  simp [operandZp, readByte, passByte, fetchByte, tick, note]

theorem operandZpX_eq (d8 : Byte) (s : State) :
    operandZpX d8 s = (s.mem.read (eaZpIdx d8 s.x),
      { s with pc := s.pc + 1#16, cyc := s.cyc + 3, events := s.events ++ [.read s.pc, .read (eaZpIdx d8 s.x)] }) := by
  simp [operandZpX, readByte, passByte, fetchByte, tick, note]

theorem operandZpY_eq (d8 : Byte) (s : State) :
    operandZpY d8 s = (s.mem.read (eaZpIdx d8 s.y),
      { s with pc := s.pc + 1#16, cyc := s.cyc + 3, events := s.events ++ [.read s.pc, .read (eaZpIdx d8 s.y)] }) := by
  simp [operandZpY, readByte, passByte, fetchByte, tick, note]

theorem operandAbs_eq (addr : Word) (s : State) :
    operandAbs addr s = (s.mem.read addr,
      { s with pc := s.pc + 2#16, cyc := s.cyc + 3,
               events := s.events ++ [.read s.pc, .read (s.pc + 1#16), .read addr] }) := by
  simp [operandAbs, passWord_eq, readByte, tick, note]

theorem operandAbsX_eq (base : Word) (s : State) :
    operandAbsX base s = (s.mem.read (eaAbsIdx base s.x),
      { s with pc := s.pc + 2#16, cyc := s.cyc + 3 + (if crossed base (eaAbsIdx base s.x) then 1 else 0),
               events := s.events ++ [.read s.pc, .read (s.pc + 1#16), .read (eaAbsIdx base s.x)] }) := by
  simp [operandAbsX, passWord_eq, tickIfCrossed_eq, readByte, tick, note]
  omega

theorem operandAbsY_eq (base : Word) (s : State) :
    operandAbsY base s = (s.mem.read (eaAbsIdx base s.y),
      { s with pc := s.pc + 2#16, cyc := s.cyc + 3 + (if crossed base (eaAbsIdx base s.y) then 1 else 0),
               events := s.events ++ [.read s.pc, .read (s.pc + 1#16), .read (eaAbsIdx base s.y)] }) := by
  simp [operandAbsY, passWord_eq, tickIfCrossed_eq, readByte, tick, note]
  omega

theorem operandIndX_eq (d8 : Byte) (s : State) :
    operandIndX d8 s = (s.mem.read (ptrTarget s.mem (eaZpIdx d8 s.x)),
      { s with pc := s.pc + 1#16, cyc := s.cyc + 5,
               events := s.events ++ [.read s.pc, .read (eaZpIdx d8 s.x), .read (ptrHighAddr (eaZpIdx d8 s.x)),
                                      .read (ptrTarget s.mem (eaZpIdx d8 s.x))] }) := by
  simp [operandIndX, readPtr_eq, readByte, passByte, fetchByte, tick, note]

theorem operandIndY_eq (d8 : Byte) (s : State) :
    operandIndY d8 s = (s.mem.read (eaAbsIdx (ptrTarget s.mem (eaZp d8)) s.y),
      { s with pc := s.pc + 1#16,
               cyc := s.cyc + 4 + (if crossed (ptrTarget s.mem (eaZp d8))
                                        (eaAbsIdx (ptrTarget s.mem (eaZp d8)) s.y) then 1 else 0),
               events := s.events ++ [.read s.pc, .read (eaZp d8), .read (ptrHighAddr (eaZp d8)),
                                      .read (eaAbsIdx (ptrTarget s.mem (eaZp d8)) s.y)] }) := by
  simp [operandIndY, readPtr_eq, tickIfCrossed_eq, readByte, passByte, fetchByte, tick, note]
  omega

/-- The load template (R89): the destination and Z and N change, the rest is as the mode left it. -/
theorem load_eq (r : DataReg) (v : Byte) (s : State) :
    load r (v, s) = { s with a := if r = .a then v else s.a, x := if r = .x then v else s.x,
                             y := if r = .y then v else s.y,
                             p := { s.p with z := zeroFlag v, n := negativeFlag v } } := by
  cases r <;> rfl

/-- JSR's whole effect (R112). -/
theorem execJsr_eq (target : Word) (s : State) :
    execJsr target s = .next
      { s with pc := target, sp := s.sp - config.jsrSpStep, cyc := s.cyc + 5,
               mem := (s.mem.write (stackAddr s.sp) (loByte (s.pc + 1#16))).write (stackAddr s.sp - 1#16)
                        (hiByte (s.pc + 1#16)),
               events := s.events ++ [.read s.pc, .read (s.pc + 1#16), .write (stackAddr s.sp),
                                      .write (stackAddr s.sp - 1#16)] } := by
  have h : s.pc + 2#16 - 1#16 = s.pc + 1#16 := by bv_omega
  simp [execJsr, passWord_eq, writeWord_eq, tick, h]

end Sys2Proof.Machine
end

