-- ==== Sys2Proof/Laws/Instr.lean ====
section
/-! SUPPORT. Case analysis over the instructions: the 21 handled ones by name, the 235 unhandled ones all at once. -/

namespace Sys2Proof.Machine

/-- A property of every instruction, from the 21 handled ones and the unhandled ones taken together. -/
theorem instr_cases {P : Instr → Prop}
    (ldaImm : ∀ d8, P (.ldaImm d8))
    (ldaZp : ∀ d8, P (.ldaZp d8))
    (ldaZpX : ∀ d8, P (.ldaZpX d8))
    (ldaAbs : ∀ addr, P (.ldaAbs addr))
    (ldaAbsX : ∀ base, P (.ldaAbsX base))
    (ldaAbsY : ∀ base, P (.ldaAbsY base))
    (ldaIndX : ∀ d8, P (.ldaIndX d8))
    (ldaIndY : ∀ d8, P (.ldaIndY d8))
    (ldxImm : ∀ d8, P (.ldxImm d8))
    (ldxZp : ∀ d8, P (.ldxZp d8))
    (ldxZpY : ∀ d8, P (.ldxZpY d8))
    (ldxAbs : ∀ addr, P (.ldxAbs addr))
    (ldxAbsY : ∀ base, P (.ldxAbsY base))
    (ldyImm : ∀ d8, P (.ldyImm d8))
    (ldyZp : ∀ d8, P (.ldyZp d8))
    (ldyZpX : ∀ d8, P (.ldyZpX d8))
    (ldyAbs : ∀ addr, P (.ldyAbs addr))
    (ldyAbsX : ∀ base, P (.ldyAbsX base))
    (jmpAbs : ∀ target, P (.jmpAbs target))
    (jmpInd : P .jmpInd)
    (jsr : ∀ target, P (.jsr target))
    (unhandled : ∀ i : Instr, i.entry = .unhandled → P i) (i : Instr) : P i := by
  cases i
  case ldaImm => exact ldaImm _
  case ldaZp => exact ldaZp _
  case ldaZpX => exact ldaZpX _
  case ldaAbs => exact ldaAbs _
  case ldaAbsX => exact ldaAbsX _
  case ldaAbsY => exact ldaAbsY _
  case ldaIndX => exact ldaIndX _
  case ldaIndY => exact ldaIndY _
  case ldxImm => exact ldxImm _
  case ldxZp => exact ldxZp _
  case ldxZpY => exact ldxZpY _
  case ldxAbs => exact ldxAbs _
  case ldxAbsY => exact ldxAbsY _
  case ldyImm => exact ldyImm _
  case ldyZp => exact ldyZp _
  case ldyZpX => exact ldyZpX _
  case ldyAbs => exact ldyAbs _
  case ldyAbsX => exact ldyAbsX _
  case jmpAbs => exact jmpAbs _
  case jmpInd => exact jmpInd
  case jsr => exact jsr _
  all_goals exact unhandled _ rfl

/-- What an unhandled instruction does (R120), from the meaning all 235 share. -/
theorem exec_unhandled (i : Instr) (h : i.entry = .unhandled) (s : State) :
    exec i s = .next (raiseUnhandled i.opcode s) := by
  cases i
  case ldaImm => cases h
  case ldaZp => cases h
  case ldaZpX => cases h
  case ldaAbs => cases h
  case ldaAbsX => cases h
  case ldaAbsY => cases h
  case ldaIndX => cases h
  case ldaIndY => cases h
  case ldxImm => cases h
  case ldxZp => cases h
  case ldxZpY => cases h
  case ldxAbs => cases h
  case ldxAbsY => cases h
  case ldyImm => cases h
  case ldyZp => cases h
  case ldyZpX => cases h
  case ldyAbs => cases h
  case ldyAbsX => cases h
  case jmpAbs => cases h
  case jmpInd => cases h
  case jsr => cases h
  all_goals rfl

end Sys2Proof.Machine
end

