-- ==== Sys2Proof/Laws/PerInstr.lean ====
section
/-! SUPPORT. One statement for all instructions, made per instruction: the form of an instruction's encoding. -/

/-- An instruction is well formed, its encoding begins with its opcode byte and has one, two or three bytes, and the
table's entry of that byte is of the format with that many bytes (spec/30_encoding.md R51, R52, R55). -/
def Sys2Proof.Laws.EncodingForm.Statement (i : Sys2Proof.Instr) : Prop :=
  i.wellFormed = true ∧ (Sys2Proof.encode i).head? = some i.opcode ∧
    (Sys2Proof.encode i).length = (Sys2Proof.shapeOf i.opcode).length

namespace Sys2Proof.Laws.EncodingForm

open Sys2Proof

theorem ldaImm (d8 : Byte) : Statement (.ldaImm d8) :=
  ⟨rfl, rfl, show 2 = (shapeOf 0xA9#8).length from rfl⟩
theorem ldaZp (d8 : Byte) : Statement (.ldaZp d8) :=
  ⟨rfl, rfl, show 2 = (shapeOf 0xA5#8).length from rfl⟩
theorem ldaZpX (d8 : Byte) : Statement (.ldaZpX d8) :=
  ⟨rfl, rfl, show 2 = (shapeOf 0xB5#8).length from rfl⟩
theorem ldaAbs (addr : Word) : Statement (.ldaAbs addr) :=
  ⟨rfl, rfl, show 3 = (shapeOf 0xAD#8).length from rfl⟩
theorem ldaAbsX (base : Word) : Statement (.ldaAbsX base) :=
  ⟨rfl, rfl, show 3 = (shapeOf 0xBD#8).length from rfl⟩
theorem ldaAbsY (base : Word) : Statement (.ldaAbsY base) :=
  ⟨rfl, rfl, show 3 = (shapeOf 0xB9#8).length from rfl⟩
theorem ldaIndX (d8 : Byte) : Statement (.ldaIndX d8) :=
  ⟨rfl, rfl, show 2 = (shapeOf 0xA1#8).length from rfl⟩
theorem ldaIndY (d8 : Byte) : Statement (.ldaIndY d8) :=
  ⟨rfl, rfl, show 2 = (shapeOf 0xB1#8).length from rfl⟩
theorem ldxImm (d8 : Byte) : Statement (.ldxImm d8) :=
  ⟨rfl, rfl, show 2 = (shapeOf 0xA2#8).length from rfl⟩
theorem ldxZp (d8 : Byte) : Statement (.ldxZp d8) :=
  ⟨rfl, rfl, show 2 = (shapeOf 0xA6#8).length from rfl⟩
theorem ldxZpY (d8 : Byte) : Statement (.ldxZpY d8) :=
  ⟨rfl, rfl, show 2 = (shapeOf 0xB6#8).length from rfl⟩
theorem ldxAbs (addr : Word) : Statement (.ldxAbs addr) :=
  ⟨rfl, rfl, show 3 = (shapeOf 0xAE#8).length from rfl⟩
theorem ldxAbsY (base : Word) : Statement (.ldxAbsY base) :=
  ⟨rfl, rfl, show 3 = (shapeOf 0xBE#8).length from rfl⟩
theorem ldyImm (d8 : Byte) : Statement (.ldyImm d8) :=
  ⟨rfl, rfl, show 2 = (shapeOf 0xA0#8).length from rfl⟩
theorem ldyZp (d8 : Byte) : Statement (.ldyZp d8) :=
  ⟨rfl, rfl, show 2 = (shapeOf 0xA4#8).length from rfl⟩
theorem ldyZpX (d8 : Byte) : Statement (.ldyZpX d8) :=
  ⟨rfl, rfl, show 2 = (shapeOf 0xB4#8).length from rfl⟩
theorem ldyAbs (addr : Word) : Statement (.ldyAbs addr) :=
  ⟨rfl, rfl, show 3 = (shapeOf 0xAC#8).length from rfl⟩
theorem ldyAbsX (base : Word) : Statement (.ldyAbsX base) :=
  ⟨rfl, rfl, show 3 = (shapeOf 0xBC#8).length from rfl⟩
theorem jmpAbs (target : Word) : Statement (.jmpAbs target) :=
  ⟨rfl, rfl, show 3 = (shapeOf 0x4C#8).length from rfl⟩
theorem jmpInd : Statement (.jmpInd) :=
  ⟨rfl, rfl, show 1 = (shapeOf 0x6C#8).length from rfl⟩
theorem jsr (target : Word) : Statement (.jsr target) :=
  ⟨rfl, rfl, show 3 = (shapeOf 0x20#8).length from rfl⟩
theorem unhandled00 : Statement .unhandled00 := ⟨rfl, rfl, rfl⟩
theorem unhandled01 : Statement .unhandled01 := ⟨rfl, rfl, rfl⟩
theorem unhandled02 : Statement .unhandled02 := ⟨rfl, rfl, rfl⟩
theorem unhandled03 : Statement .unhandled03 := ⟨rfl, rfl, rfl⟩
theorem unhandled04 : Statement .unhandled04 := ⟨rfl, rfl, rfl⟩
theorem unhandled05 : Statement .unhandled05 := ⟨rfl, rfl, rfl⟩
theorem unhandled06 : Statement .unhandled06 := ⟨rfl, rfl, rfl⟩
theorem unhandled07 : Statement .unhandled07 := ⟨rfl, rfl, rfl⟩
theorem unhandled08 : Statement .unhandled08 := ⟨rfl, rfl, rfl⟩
theorem unhandled09 : Statement .unhandled09 := ⟨rfl, rfl, rfl⟩
theorem unhandled0A : Statement .unhandled0A := ⟨rfl, rfl, rfl⟩
theorem unhandled0B : Statement .unhandled0B := ⟨rfl, rfl, rfl⟩
theorem unhandled0C : Statement .unhandled0C := ⟨rfl, rfl, rfl⟩
theorem unhandled0D : Statement .unhandled0D := ⟨rfl, rfl, rfl⟩
theorem unhandled0E : Statement .unhandled0E := ⟨rfl, rfl, rfl⟩
theorem unhandled0F : Statement .unhandled0F := ⟨rfl, rfl, rfl⟩
theorem unhandled10 : Statement .unhandled10 := ⟨rfl, rfl, rfl⟩
theorem unhandled11 : Statement .unhandled11 := ⟨rfl, rfl, rfl⟩
theorem unhandled12 : Statement .unhandled12 := ⟨rfl, rfl, rfl⟩
theorem unhandled13 : Statement .unhandled13 := ⟨rfl, rfl, rfl⟩
theorem unhandled14 : Statement .unhandled14 := ⟨rfl, rfl, rfl⟩
theorem unhandled15 : Statement .unhandled15 := ⟨rfl, rfl, rfl⟩
theorem unhandled16 : Statement .unhandled16 := ⟨rfl, rfl, rfl⟩
theorem unhandled17 : Statement .unhandled17 := ⟨rfl, rfl, rfl⟩
theorem unhandled18 : Statement .unhandled18 := ⟨rfl, rfl, rfl⟩
theorem unhandled19 : Statement .unhandled19 := ⟨rfl, rfl, rfl⟩
theorem unhandled1A : Statement .unhandled1A := ⟨rfl, rfl, rfl⟩
theorem unhandled1B : Statement .unhandled1B := ⟨rfl, rfl, rfl⟩
theorem unhandled1C : Statement .unhandled1C := ⟨rfl, rfl, rfl⟩
theorem unhandled1D : Statement .unhandled1D := ⟨rfl, rfl, rfl⟩
theorem unhandled1E : Statement .unhandled1E := ⟨rfl, rfl, rfl⟩
theorem unhandled1F : Statement .unhandled1F := ⟨rfl, rfl, rfl⟩
theorem unhandled21 : Statement .unhandled21 := ⟨rfl, rfl, rfl⟩
theorem unhandled22 : Statement .unhandled22 := ⟨rfl, rfl, rfl⟩
theorem unhandled23 : Statement .unhandled23 := ⟨rfl, rfl, rfl⟩
theorem unhandled24 : Statement .unhandled24 := ⟨rfl, rfl, rfl⟩
theorem unhandled25 : Statement .unhandled25 := ⟨rfl, rfl, rfl⟩
theorem unhandled26 : Statement .unhandled26 := ⟨rfl, rfl, rfl⟩
theorem unhandled27 : Statement .unhandled27 := ⟨rfl, rfl, rfl⟩
theorem unhandled28 : Statement .unhandled28 := ⟨rfl, rfl, rfl⟩
theorem unhandled29 : Statement .unhandled29 := ⟨rfl, rfl, rfl⟩
theorem unhandled2A : Statement .unhandled2A := ⟨rfl, rfl, rfl⟩
theorem unhandled2B : Statement .unhandled2B := ⟨rfl, rfl, rfl⟩
theorem unhandled2C : Statement .unhandled2C := ⟨rfl, rfl, rfl⟩
theorem unhandled2D : Statement .unhandled2D := ⟨rfl, rfl, rfl⟩
theorem unhandled2E : Statement .unhandled2E := ⟨rfl, rfl, rfl⟩
theorem unhandled2F : Statement .unhandled2F := ⟨rfl, rfl, rfl⟩
theorem unhandled30 : Statement .unhandled30 := ⟨rfl, rfl, rfl⟩
theorem unhandled31 : Statement .unhandled31 := ⟨rfl, rfl, rfl⟩
theorem unhandled32 : Statement .unhandled32 := ⟨rfl, rfl, rfl⟩
theorem unhandled33 : Statement .unhandled33 := ⟨rfl, rfl, rfl⟩
theorem unhandled34 : Statement .unhandled34 := ⟨rfl, rfl, rfl⟩
theorem unhandled35 : Statement .unhandled35 := ⟨rfl, rfl, rfl⟩
theorem unhandled36 : Statement .unhandled36 := ⟨rfl, rfl, rfl⟩
theorem unhandled37 : Statement .unhandled37 := ⟨rfl, rfl, rfl⟩
theorem unhandled38 : Statement .unhandled38 := ⟨rfl, rfl, rfl⟩
theorem unhandled39 : Statement .unhandled39 := ⟨rfl, rfl, rfl⟩
theorem unhandled3A : Statement .unhandled3A := ⟨rfl, rfl, rfl⟩
theorem unhandled3B : Statement .unhandled3B := ⟨rfl, rfl, rfl⟩
theorem unhandled3C : Statement .unhandled3C := ⟨rfl, rfl, rfl⟩
theorem unhandled3D : Statement .unhandled3D := ⟨rfl, rfl, rfl⟩
theorem unhandled3E : Statement .unhandled3E := ⟨rfl, rfl, rfl⟩
theorem unhandled3F : Statement .unhandled3F := ⟨rfl, rfl, rfl⟩
theorem unhandled40 : Statement .unhandled40 := ⟨rfl, rfl, rfl⟩
theorem unhandled41 : Statement .unhandled41 := ⟨rfl, rfl, rfl⟩
theorem unhandled42 : Statement .unhandled42 := ⟨rfl, rfl, rfl⟩
theorem unhandled43 : Statement .unhandled43 := ⟨rfl, rfl, rfl⟩
theorem unhandled44 : Statement .unhandled44 := ⟨rfl, rfl, rfl⟩
theorem unhandled45 : Statement .unhandled45 := ⟨rfl, rfl, rfl⟩
theorem unhandled46 : Statement .unhandled46 := ⟨rfl, rfl, rfl⟩
theorem unhandled47 : Statement .unhandled47 := ⟨rfl, rfl, rfl⟩
theorem unhandled48 : Statement .unhandled48 := ⟨rfl, rfl, rfl⟩
theorem unhandled49 : Statement .unhandled49 := ⟨rfl, rfl, rfl⟩
theorem unhandled4A : Statement .unhandled4A := ⟨rfl, rfl, rfl⟩
theorem unhandled4B : Statement .unhandled4B := ⟨rfl, rfl, rfl⟩
theorem unhandled4D : Statement .unhandled4D := ⟨rfl, rfl, rfl⟩
theorem unhandled4E : Statement .unhandled4E := ⟨rfl, rfl, rfl⟩
theorem unhandled4F : Statement .unhandled4F := ⟨rfl, rfl, rfl⟩
theorem unhandled50 : Statement .unhandled50 := ⟨rfl, rfl, rfl⟩
theorem unhandled51 : Statement .unhandled51 := ⟨rfl, rfl, rfl⟩
theorem unhandled52 : Statement .unhandled52 := ⟨rfl, rfl, rfl⟩
theorem unhandled53 : Statement .unhandled53 := ⟨rfl, rfl, rfl⟩
theorem unhandled54 : Statement .unhandled54 := ⟨rfl, rfl, rfl⟩
theorem unhandled55 : Statement .unhandled55 := ⟨rfl, rfl, rfl⟩
theorem unhandled56 : Statement .unhandled56 := ⟨rfl, rfl, rfl⟩
theorem unhandled57 : Statement .unhandled57 := ⟨rfl, rfl, rfl⟩
theorem unhandled58 : Statement .unhandled58 := ⟨rfl, rfl, rfl⟩
theorem unhandled59 : Statement .unhandled59 := ⟨rfl, rfl, rfl⟩
theorem unhandled5A : Statement .unhandled5A := ⟨rfl, rfl, rfl⟩
theorem unhandled5B : Statement .unhandled5B := ⟨rfl, rfl, rfl⟩
theorem unhandled5C : Statement .unhandled5C := ⟨rfl, rfl, rfl⟩
theorem unhandled5D : Statement .unhandled5D := ⟨rfl, rfl, rfl⟩
theorem unhandled5E : Statement .unhandled5E := ⟨rfl, rfl, rfl⟩
theorem unhandled5F : Statement .unhandled5F := ⟨rfl, rfl, rfl⟩
theorem unhandled60 : Statement .unhandled60 := ⟨rfl, rfl, rfl⟩
theorem unhandled61 : Statement .unhandled61 := ⟨rfl, rfl, rfl⟩
theorem unhandled62 : Statement .unhandled62 := ⟨rfl, rfl, rfl⟩
theorem unhandled63 : Statement .unhandled63 := ⟨rfl, rfl, rfl⟩
theorem unhandled64 : Statement .unhandled64 := ⟨rfl, rfl, rfl⟩
theorem unhandled65 : Statement .unhandled65 := ⟨rfl, rfl, rfl⟩
theorem unhandled66 : Statement .unhandled66 := ⟨rfl, rfl, rfl⟩
theorem unhandled67 : Statement .unhandled67 := ⟨rfl, rfl, rfl⟩
theorem unhandled68 : Statement .unhandled68 := ⟨rfl, rfl, rfl⟩
theorem unhandled69 : Statement .unhandled69 := ⟨rfl, rfl, rfl⟩
theorem unhandled6A : Statement .unhandled6A := ⟨rfl, rfl, rfl⟩
theorem unhandled6B : Statement .unhandled6B := ⟨rfl, rfl, rfl⟩
theorem unhandled6D : Statement .unhandled6D := ⟨rfl, rfl, rfl⟩
theorem unhandled6E : Statement .unhandled6E := ⟨rfl, rfl, rfl⟩
theorem unhandled6F : Statement .unhandled6F := ⟨rfl, rfl, rfl⟩
theorem unhandled70 : Statement .unhandled70 := ⟨rfl, rfl, rfl⟩
theorem unhandled71 : Statement .unhandled71 := ⟨rfl, rfl, rfl⟩
theorem unhandled72 : Statement .unhandled72 := ⟨rfl, rfl, rfl⟩
theorem unhandled73 : Statement .unhandled73 := ⟨rfl, rfl, rfl⟩
theorem unhandled74 : Statement .unhandled74 := ⟨rfl, rfl, rfl⟩
theorem unhandled75 : Statement .unhandled75 := ⟨rfl, rfl, rfl⟩
theorem unhandled76 : Statement .unhandled76 := ⟨rfl, rfl, rfl⟩
theorem unhandled77 : Statement .unhandled77 := ⟨rfl, rfl, rfl⟩
theorem unhandled78 : Statement .unhandled78 := ⟨rfl, rfl, rfl⟩
theorem unhandled79 : Statement .unhandled79 := ⟨rfl, rfl, rfl⟩
theorem unhandled7A : Statement .unhandled7A := ⟨rfl, rfl, rfl⟩
theorem unhandled7B : Statement .unhandled7B := ⟨rfl, rfl, rfl⟩
theorem unhandled7C : Statement .unhandled7C := ⟨rfl, rfl, rfl⟩
theorem unhandled7D : Statement .unhandled7D := ⟨rfl, rfl, rfl⟩
theorem unhandled7E : Statement .unhandled7E := ⟨rfl, rfl, rfl⟩
theorem unhandled7F : Statement .unhandled7F := ⟨rfl, rfl, rfl⟩
theorem unhandled80 : Statement .unhandled80 := ⟨rfl, rfl, rfl⟩
theorem unhandled81 : Statement .unhandled81 := ⟨rfl, rfl, rfl⟩
theorem unhandled82 : Statement .unhandled82 := ⟨rfl, rfl, rfl⟩
theorem unhandled83 : Statement .unhandled83 := ⟨rfl, rfl, rfl⟩
theorem unhandled84 : Statement .unhandled84 := ⟨rfl, rfl, rfl⟩
theorem unhandled85 : Statement .unhandled85 := ⟨rfl, rfl, rfl⟩
theorem unhandled86 : Statement .unhandled86 := ⟨rfl, rfl, rfl⟩
theorem unhandled87 : Statement .unhandled87 := ⟨rfl, rfl, rfl⟩
theorem unhandled88 : Statement .unhandled88 := ⟨rfl, rfl, rfl⟩
theorem unhandled89 : Statement .unhandled89 := ⟨rfl, rfl, rfl⟩
theorem unhandled8A : Statement .unhandled8A := ⟨rfl, rfl, rfl⟩
theorem unhandled8B : Statement .unhandled8B := ⟨rfl, rfl, rfl⟩
theorem unhandled8C : Statement .unhandled8C := ⟨rfl, rfl, rfl⟩
theorem unhandled8D : Statement .unhandled8D := ⟨rfl, rfl, rfl⟩
theorem unhandled8E : Statement .unhandled8E := ⟨rfl, rfl, rfl⟩
theorem unhandled8F : Statement .unhandled8F := ⟨rfl, rfl, rfl⟩
theorem unhandled90 : Statement .unhandled90 := ⟨rfl, rfl, rfl⟩
theorem unhandled91 : Statement .unhandled91 := ⟨rfl, rfl, rfl⟩
theorem unhandled92 : Statement .unhandled92 := ⟨rfl, rfl, rfl⟩
theorem unhandled93 : Statement .unhandled93 := ⟨rfl, rfl, rfl⟩
theorem unhandled94 : Statement .unhandled94 := ⟨rfl, rfl, rfl⟩
theorem unhandled95 : Statement .unhandled95 := ⟨rfl, rfl, rfl⟩
theorem unhandled96 : Statement .unhandled96 := ⟨rfl, rfl, rfl⟩
theorem unhandled97 : Statement .unhandled97 := ⟨rfl, rfl, rfl⟩
theorem unhandled98 : Statement .unhandled98 := ⟨rfl, rfl, rfl⟩
theorem unhandled99 : Statement .unhandled99 := ⟨rfl, rfl, rfl⟩
theorem unhandled9A : Statement .unhandled9A := ⟨rfl, rfl, rfl⟩
theorem unhandled9B : Statement .unhandled9B := ⟨rfl, rfl, rfl⟩
theorem unhandled9C : Statement .unhandled9C := ⟨rfl, rfl, rfl⟩
theorem unhandled9D : Statement .unhandled9D := ⟨rfl, rfl, rfl⟩
theorem unhandled9E : Statement .unhandled9E := ⟨rfl, rfl, rfl⟩
theorem unhandled9F : Statement .unhandled9F := ⟨rfl, rfl, rfl⟩
theorem unhandledA3 : Statement .unhandledA3 := ⟨rfl, rfl, rfl⟩
theorem unhandledA7 : Statement .unhandledA7 := ⟨rfl, rfl, rfl⟩
theorem unhandledA8 : Statement .unhandledA8 := ⟨rfl, rfl, rfl⟩
theorem unhandledAA : Statement .unhandledAA := ⟨rfl, rfl, rfl⟩
theorem unhandledAB : Statement .unhandledAB := ⟨rfl, rfl, rfl⟩
theorem unhandledAF : Statement .unhandledAF := ⟨rfl, rfl, rfl⟩
theorem unhandledB0 : Statement .unhandledB0 := ⟨rfl, rfl, rfl⟩
theorem unhandledB2 : Statement .unhandledB2 := ⟨rfl, rfl, rfl⟩
theorem unhandledB3 : Statement .unhandledB3 := ⟨rfl, rfl, rfl⟩
theorem unhandledB7 : Statement .unhandledB7 := ⟨rfl, rfl, rfl⟩
theorem unhandledB8 : Statement .unhandledB8 := ⟨rfl, rfl, rfl⟩
theorem unhandledBA : Statement .unhandledBA := ⟨rfl, rfl, rfl⟩
theorem unhandledBB : Statement .unhandledBB := ⟨rfl, rfl, rfl⟩
theorem unhandledBF : Statement .unhandledBF := ⟨rfl, rfl, rfl⟩
theorem unhandledC0 : Statement .unhandledC0 := ⟨rfl, rfl, rfl⟩
theorem unhandledC1 : Statement .unhandledC1 := ⟨rfl, rfl, rfl⟩
theorem unhandledC2 : Statement .unhandledC2 := ⟨rfl, rfl, rfl⟩
theorem unhandledC3 : Statement .unhandledC3 := ⟨rfl, rfl, rfl⟩
theorem unhandledC4 : Statement .unhandledC4 := ⟨rfl, rfl, rfl⟩
theorem unhandledC5 : Statement .unhandledC5 := ⟨rfl, rfl, rfl⟩
theorem unhandledC6 : Statement .unhandledC6 := ⟨rfl, rfl, rfl⟩
theorem unhandledC7 : Statement .unhandledC7 := ⟨rfl, rfl, rfl⟩
theorem unhandledC8 : Statement .unhandledC8 := ⟨rfl, rfl, rfl⟩
theorem unhandledC9 : Statement .unhandledC9 := ⟨rfl, rfl, rfl⟩
theorem unhandledCA : Statement .unhandledCA := ⟨rfl, rfl, rfl⟩
theorem unhandledCB : Statement .unhandledCB := ⟨rfl, rfl, rfl⟩
theorem unhandledCC : Statement .unhandledCC := ⟨rfl, rfl, rfl⟩
theorem unhandledCD : Statement .unhandledCD := ⟨rfl, rfl, rfl⟩
theorem unhandledCE : Statement .unhandledCE := ⟨rfl, rfl, rfl⟩
theorem unhandledCF : Statement .unhandledCF := ⟨rfl, rfl, rfl⟩
theorem unhandledD0 : Statement .unhandledD0 := ⟨rfl, rfl, rfl⟩
theorem unhandledD1 : Statement .unhandledD1 := ⟨rfl, rfl, rfl⟩
theorem unhandledD2 : Statement .unhandledD2 := ⟨rfl, rfl, rfl⟩
theorem unhandledD3 : Statement .unhandledD3 := ⟨rfl, rfl, rfl⟩
theorem unhandledD4 : Statement .unhandledD4 := ⟨rfl, rfl, rfl⟩
theorem unhandledD5 : Statement .unhandledD5 := ⟨rfl, rfl, rfl⟩
theorem unhandledD6 : Statement .unhandledD6 := ⟨rfl, rfl, rfl⟩
theorem unhandledD7 : Statement .unhandledD7 := ⟨rfl, rfl, rfl⟩
theorem unhandledD8 : Statement .unhandledD8 := ⟨rfl, rfl, rfl⟩
theorem unhandledD9 : Statement .unhandledD9 := ⟨rfl, rfl, rfl⟩
theorem unhandledDA : Statement .unhandledDA := ⟨rfl, rfl, rfl⟩
theorem unhandledDB : Statement .unhandledDB := ⟨rfl, rfl, rfl⟩
theorem unhandledDC : Statement .unhandledDC := ⟨rfl, rfl, rfl⟩
theorem unhandledDD : Statement .unhandledDD := ⟨rfl, rfl, rfl⟩
theorem unhandledDE : Statement .unhandledDE := ⟨rfl, rfl, rfl⟩
theorem unhandledDF : Statement .unhandledDF := ⟨rfl, rfl, rfl⟩
theorem unhandledE0 : Statement .unhandledE0 := ⟨rfl, rfl, rfl⟩
theorem unhandledE1 : Statement .unhandledE1 := ⟨rfl, rfl, rfl⟩
theorem unhandledE2 : Statement .unhandledE2 := ⟨rfl, rfl, rfl⟩
theorem unhandledE3 : Statement .unhandledE3 := ⟨rfl, rfl, rfl⟩
theorem unhandledE4 : Statement .unhandledE4 := ⟨rfl, rfl, rfl⟩
theorem unhandledE5 : Statement .unhandledE5 := ⟨rfl, rfl, rfl⟩
theorem unhandledE6 : Statement .unhandledE6 := ⟨rfl, rfl, rfl⟩
theorem unhandledE7 : Statement .unhandledE7 := ⟨rfl, rfl, rfl⟩
theorem unhandledE8 : Statement .unhandledE8 := ⟨rfl, rfl, rfl⟩
theorem unhandledE9 : Statement .unhandledE9 := ⟨rfl, rfl, rfl⟩
theorem unhandledEA : Statement .unhandledEA := ⟨rfl, rfl, rfl⟩
theorem unhandledEB : Statement .unhandledEB := ⟨rfl, rfl, rfl⟩
theorem unhandledEC : Statement .unhandledEC := ⟨rfl, rfl, rfl⟩
theorem unhandledED : Statement .unhandledED := ⟨rfl, rfl, rfl⟩
theorem unhandledEE : Statement .unhandledEE := ⟨rfl, rfl, rfl⟩
theorem unhandledEF : Statement .unhandledEF := ⟨rfl, rfl, rfl⟩
theorem unhandledF0 : Statement .unhandledF0 := ⟨rfl, rfl, rfl⟩
theorem unhandledF1 : Statement .unhandledF1 := ⟨rfl, rfl, rfl⟩
theorem unhandledF2 : Statement .unhandledF2 := ⟨rfl, rfl, rfl⟩
theorem unhandledF3 : Statement .unhandledF3 := ⟨rfl, rfl, rfl⟩
theorem unhandledF4 : Statement .unhandledF4 := ⟨rfl, rfl, rfl⟩
theorem unhandledF5 : Statement .unhandledF5 := ⟨rfl, rfl, rfl⟩
theorem unhandledF6 : Statement .unhandledF6 := ⟨rfl, rfl, rfl⟩
theorem unhandledF7 : Statement .unhandledF7 := ⟨rfl, rfl, rfl⟩
theorem unhandledF8 : Statement .unhandledF8 := ⟨rfl, rfl, rfl⟩
theorem unhandledF9 : Statement .unhandledF9 := ⟨rfl, rfl, rfl⟩
theorem unhandledFA : Statement .unhandledFA := ⟨rfl, rfl, rfl⟩
theorem unhandledFB : Statement .unhandledFB := ⟨rfl, rfl, rfl⟩
theorem unhandledFC : Statement .unhandledFC := ⟨rfl, rfl, rfl⟩
theorem unhandledFD : Statement .unhandledFD := ⟨rfl, rfl, rfl⟩
theorem unhandledFE : Statement .unhandledFE := ⟨rfl, rfl, rfl⟩
theorem unhandledFF : Statement .unhandledFF := ⟨rfl, rfl, rfl⟩

end Sys2Proof.Laws.EncodingForm
end

