-- ==== Sys2Proof/Laws/Step.lean ====
section
/-! SUPPORT. What a step can do: it answers a next state exactly when the core is Running, and then the execute
transaction's frame stands around the meaning of the instruction fetched. -/

namespace Sys2Proof.Machine

/-- The list decoder and the decoder `step` uses read the same instruction. -/
theorem decode_three (op b1 b2 : Byte) : ∃ rest, decode [op, b1, b2] = .ok (decodeAt op b1 b2, rest) := by
  simp only [decode, decodeAt]
  cases shapeOf op <;> exact ⟨_, rfl⟩

theorem fetchInstr_of_decode {s : State} {i : Instr} {rest : List Byte} (h : decode (instrBytes s) = .ok (i, rest)) :
    fetchInstr s = i := by
  obtain ⟨r, hr⟩ := decode_three (s.mem.read s.pc) (s.mem.read (s.pc + 1#16)) (s.mem.read (s.pc + 2#16))
  unfold instrBytes at h
  rw [hr] at h
  simp only [Except.ok.injEq, Prod.mk.injEq] at h
  exact h.1

/-- The inversion of `step`: the core was Running and the instruction fetched answered a next state. -/
theorem step_next {s t : State} (h : step s = .next t) :
    s.runState = .running ∧ ∃ u, exec (fetchInstr s) (beginExecute s) = .next u ∧ t = endExecute u := by
  unfold step at h
  split at h
  · cases h
  · rename_i hr
    refine ⟨hr, ?_⟩
    unfold finishExecute at h
    split at h
    · rename_i u hu
      cases h
      exact ⟨u, hu, rfl⟩
    · cases h
    · cases h

/-- A Running core's step, given what its instruction answers. -/
theorem step_of_exec {s u : State} (hr : s.runState = .running)
    (hu : exec (fetchInstr s) (beginExecute s) = .next u) : step s = .next (endExecute u) := by
  simp [step, hr, hu, finishExecute]

/-- The instruction a step runs, from the opcode byte and what the table says of it. -/
theorem fetchInstr_eq (s : State) :
    fetchInstr s = match shapeOf (s.mem.read s.pc) with
      | .f1 i => i
      | .f2 mk => mk (s.mem.read (s.pc + 1#16))
      | .f3 mk => mk (effAddr (s.mem.read (s.pc + 1#16)) (s.mem.read (s.pc + 2#16))) := rfl

/-- The instruction a step runs has the opcode byte at PC. -/
@[simp] theorem fetchInstr_opcode (s : State) : (fetchInstr s).opcode = s.mem.read s.pc :=
  decodeAt_opcode _ _ _

/-- Its operand bytes are the bytes after the opcode, as many as it has. -/
theorem fetchInstr_operandBytes (s : State) :
    (fetchInstr s).operandBytes =
      [s.mem.read (s.pc + 1#16), s.mem.read (s.pc + 2#16)].take (fetchInstr s).operandBytes.length := by
  have h := shapeOf_fits (s.mem.read s.pc)
  rw [fetchInstr_eq]
  cases hs : shapeOf (s.mem.read s.pc) with
  | f1 i => rw [hs] at h; simp [h.2]
  | f2 mk => rw [hs] at h; simp [(h _).2]
  | f3 mk => rw [hs] at h; simp [(h _).2]

/-- A reset transaction leaves the reset state, whatever the state before it (R140, R152). -/
@[simp] theorem resetMachine_eq (s : State) : resetMachine s = State.reset := rfl

/-- A run of `k + 1` steps whose first step answers `t` is a run of `k` steps from `t`. -/
theorem run_succ {M : Host.Core} {k : Nat} {s t : M.State} (h : M.step s = .next t) : M.run (k + 1) s = M.run k t := by
  simp [Host.Core.run, h]

end Sys2Proof.Machine
end

