-- ==== Sys2Proof/Tests/Slice0.lean ====
section
/-! SUPPORT. The model's own tests: ill-formed entries refused, words written out from spec/30_encoding.md, single steps
from the vectors of spec/95_test_vectors.md (each test names its vector), and for every statement with hypotheses a
witness that meets them together. -/

namespace Sys2Proof.Tests

open Sys2Proof.Machine

/-! ## Ill-formed table entries are refused, one per check of WellFormed.lean -/

theorem test_wf_cost : (OpInfo.mk .imm (.load .a) 7 false).costInRange = false := by decide
theorem test_wf_penalty : (OpInfo.mk .abs (.load .a) 4 true).penaltyFits = false := by decide
theorem test_wf_mode : (OpInfo.mk .abs .jump 3 false).modeFits = false := by decide
theorem test_wf_index : (OpInfo.mk .zpx (.load .x) 4 false).indexFits = false := by decide
theorem test_wf_refuses :
    [OpInfo.mk .imm (.load .a) 7 false, .mk .abs (.load .a) 4 true, .mk .abs .jump 3 false,
     .mk .zpx (.load .x) 4 false].map OpInfo.wellFormed = [false, false, false, false] := by decide
theorem test_wf_accepts : (Instr.ldaAbsX 0x4480#16).wellFormed = true := by decide

/-! ## Every opcode byte, from the table of spec/30_encoding.md R54, followed by 34 12 -/

theorem test_decode_row_0 :
    [0x00#8, 0x01#8, 0x02#8, 0x03#8, 0x04#8, 0x05#8, 0x06#8, 0x07#8,
     0x08#8, 0x09#8, 0x0A#8, 0x0B#8, 0x0C#8, 0x0D#8, 0x0E#8, 0x0F#8].map (decodeAt · 0x34#8 0x12#8) =
    [.unhandled00, .unhandled01, .unhandled02, .unhandled03, .unhandled04, .unhandled05, .unhandled06, .unhandled07,
     .unhandled08, .unhandled09, .unhandled0A, .unhandled0B, .unhandled0C, .unhandled0D, .unhandled0E, .unhandled0F] := rfl

theorem test_decode_row_1 :
    [0x10#8, 0x11#8, 0x12#8, 0x13#8, 0x14#8, 0x15#8, 0x16#8, 0x17#8,
     0x18#8, 0x19#8, 0x1A#8, 0x1B#8, 0x1C#8, 0x1D#8, 0x1E#8, 0x1F#8].map (decodeAt · 0x34#8 0x12#8) =
    [.unhandled10, .unhandled11, .unhandled12, .unhandled13, .unhandled14, .unhandled15, .unhandled16, .unhandled17,
     .unhandled18, .unhandled19, .unhandled1A, .unhandled1B, .unhandled1C, .unhandled1D, .unhandled1E, .unhandled1F] := rfl

theorem test_decode_row_2 :
    [0x20#8, 0x21#8, 0x22#8, 0x23#8, 0x24#8, 0x25#8, 0x26#8, 0x27#8,
     0x28#8, 0x29#8, 0x2A#8, 0x2B#8, 0x2C#8, 0x2D#8, 0x2E#8, 0x2F#8].map (decodeAt · 0x34#8 0x12#8) =
    [.jsr 0x1234#16, .unhandled21, .unhandled22, .unhandled23, .unhandled24, .unhandled25, .unhandled26, .unhandled27,
     .unhandled28, .unhandled29, .unhandled2A, .unhandled2B, .unhandled2C, .unhandled2D, .unhandled2E, .unhandled2F] := rfl

theorem test_decode_row_3 :
    [0x30#8, 0x31#8, 0x32#8, 0x33#8, 0x34#8, 0x35#8, 0x36#8, 0x37#8,
     0x38#8, 0x39#8, 0x3A#8, 0x3B#8, 0x3C#8, 0x3D#8, 0x3E#8, 0x3F#8].map (decodeAt · 0x34#8 0x12#8) =
    [.unhandled30, .unhandled31, .unhandled32, .unhandled33, .unhandled34, .unhandled35, .unhandled36, .unhandled37,
     .unhandled38, .unhandled39, .unhandled3A, .unhandled3B, .unhandled3C, .unhandled3D, .unhandled3E, .unhandled3F] := rfl

theorem test_decode_row_4 :
    [0x40#8, 0x41#8, 0x42#8, 0x43#8, 0x44#8, 0x45#8, 0x46#8, 0x47#8,
     0x48#8, 0x49#8, 0x4A#8, 0x4B#8, 0x4C#8, 0x4D#8, 0x4E#8, 0x4F#8].map (decodeAt · 0x34#8 0x12#8) =
    [.unhandled40, .unhandled41, .unhandled42, .unhandled43, .unhandled44, .unhandled45, .unhandled46, .unhandled47,
     .unhandled48, .unhandled49, .unhandled4A, .unhandled4B, .jmpAbs 0x1234#16, .unhandled4D, .unhandled4E, .unhandled4F] := rfl

theorem test_decode_row_5 :
    [0x50#8, 0x51#8, 0x52#8, 0x53#8, 0x54#8, 0x55#8, 0x56#8, 0x57#8,
     0x58#8, 0x59#8, 0x5A#8, 0x5B#8, 0x5C#8, 0x5D#8, 0x5E#8, 0x5F#8].map (decodeAt · 0x34#8 0x12#8) =
    [.unhandled50, .unhandled51, .unhandled52, .unhandled53, .unhandled54, .unhandled55, .unhandled56, .unhandled57,
     .unhandled58, .unhandled59, .unhandled5A, .unhandled5B, .unhandled5C, .unhandled5D, .unhandled5E, .unhandled5F] := rfl

theorem test_decode_row_6 :
    [0x60#8, 0x61#8, 0x62#8, 0x63#8, 0x64#8, 0x65#8, 0x66#8, 0x67#8,
     0x68#8, 0x69#8, 0x6A#8, 0x6B#8, 0x6C#8, 0x6D#8, 0x6E#8, 0x6F#8].map (decodeAt · 0x34#8 0x12#8) =
    [.unhandled60, .unhandled61, .unhandled62, .unhandled63, .unhandled64, .unhandled65, .unhandled66, .unhandled67,
     .unhandled68, .unhandled69, .unhandled6A, .unhandled6B, .jmpInd, .unhandled6D, .unhandled6E, .unhandled6F] := rfl

theorem test_decode_row_7 :
    [0x70#8, 0x71#8, 0x72#8, 0x73#8, 0x74#8, 0x75#8, 0x76#8, 0x77#8,
     0x78#8, 0x79#8, 0x7A#8, 0x7B#8, 0x7C#8, 0x7D#8, 0x7E#8, 0x7F#8].map (decodeAt · 0x34#8 0x12#8) =
    [.unhandled70, .unhandled71, .unhandled72, .unhandled73, .unhandled74, .unhandled75, .unhandled76, .unhandled77,
     .unhandled78, .unhandled79, .unhandled7A, .unhandled7B, .unhandled7C, .unhandled7D, .unhandled7E, .unhandled7F] := rfl

theorem test_decode_row_8 :
    [0x80#8, 0x81#8, 0x82#8, 0x83#8, 0x84#8, 0x85#8, 0x86#8, 0x87#8,
     0x88#8, 0x89#8, 0x8A#8, 0x8B#8, 0x8C#8, 0x8D#8, 0x8E#8, 0x8F#8].map (decodeAt · 0x34#8 0x12#8) =
    [.unhandled80, .unhandled81, .unhandled82, .unhandled83, .unhandled84, .unhandled85, .unhandled86, .unhandled87,
     .unhandled88, .unhandled89, .unhandled8A, .unhandled8B, .unhandled8C, .unhandled8D, .unhandled8E, .unhandled8F] := rfl

theorem test_decode_row_9 :
    [0x90#8, 0x91#8, 0x92#8, 0x93#8, 0x94#8, 0x95#8, 0x96#8, 0x97#8,
     0x98#8, 0x99#8, 0x9A#8, 0x9B#8, 0x9C#8, 0x9D#8, 0x9E#8, 0x9F#8].map (decodeAt · 0x34#8 0x12#8) =
    [.unhandled90, .unhandled91, .unhandled92, .unhandled93, .unhandled94, .unhandled95, .unhandled96, .unhandled97,
     .unhandled98, .unhandled99, .unhandled9A, .unhandled9B, .unhandled9C, .unhandled9D, .unhandled9E, .unhandled9F] := rfl

theorem test_decode_row_A :
    [0xA0#8, 0xA1#8, 0xA2#8, 0xA3#8, 0xA4#8, 0xA5#8, 0xA6#8, 0xA7#8,
     0xA8#8, 0xA9#8, 0xAA#8, 0xAB#8, 0xAC#8, 0xAD#8, 0xAE#8, 0xAF#8].map (decodeAt · 0x34#8 0x12#8) =
    [.ldyImm 0x34#8, .ldaIndX 0x34#8, .ldxImm 0x34#8, .unhandledA3, .ldyZp 0x34#8, .ldaZp 0x34#8, .ldxZp 0x34#8, .unhandledA7,
     .unhandledA8, .ldaImm 0x34#8, .unhandledAA, .unhandledAB, .ldyAbs 0x1234#16, .ldaAbs 0x1234#16, .ldxAbs 0x1234#16, .unhandledAF] := rfl

theorem test_decode_row_B :
    [0xB0#8, 0xB1#8, 0xB2#8, 0xB3#8, 0xB4#8, 0xB5#8, 0xB6#8, 0xB7#8,
     0xB8#8, 0xB9#8, 0xBA#8, 0xBB#8, 0xBC#8, 0xBD#8, 0xBE#8, 0xBF#8].map (decodeAt · 0x34#8 0x12#8) =
    [.unhandledB0, .ldaIndY 0x34#8, .unhandledB2, .unhandledB3, .ldyZpX 0x34#8, .ldaZpX 0x34#8, .ldxZpY 0x34#8, .unhandledB7,
     .unhandledB8, .ldaAbsY 0x1234#16, .unhandledBA, .unhandledBB, .ldyAbsX 0x1234#16, .ldaAbsX 0x1234#16, .ldxAbsY 0x1234#16, .unhandledBF] := rfl

theorem test_decode_row_C :
    [0xC0#8, 0xC1#8, 0xC2#8, 0xC3#8, 0xC4#8, 0xC5#8, 0xC6#8, 0xC7#8,
     0xC8#8, 0xC9#8, 0xCA#8, 0xCB#8, 0xCC#8, 0xCD#8, 0xCE#8, 0xCF#8].map (decodeAt · 0x34#8 0x12#8) =
    [.unhandledC0, .unhandledC1, .unhandledC2, .unhandledC3, .unhandledC4, .unhandledC5, .unhandledC6, .unhandledC7,
     .unhandledC8, .unhandledC9, .unhandledCA, .unhandledCB, .unhandledCC, .unhandledCD, .unhandledCE, .unhandledCF] := rfl

theorem test_decode_row_D :
    [0xD0#8, 0xD1#8, 0xD2#8, 0xD3#8, 0xD4#8, 0xD5#8, 0xD6#8, 0xD7#8,
     0xD8#8, 0xD9#8, 0xDA#8, 0xDB#8, 0xDC#8, 0xDD#8, 0xDE#8, 0xDF#8].map (decodeAt · 0x34#8 0x12#8) =
    [.unhandledD0, .unhandledD1, .unhandledD2, .unhandledD3, .unhandledD4, .unhandledD5, .unhandledD6, .unhandledD7,
     .unhandledD8, .unhandledD9, .unhandledDA, .unhandledDB, .unhandledDC, .unhandledDD, .unhandledDE, .unhandledDF] := rfl

theorem test_decode_row_E :
    [0xE0#8, 0xE1#8, 0xE2#8, 0xE3#8, 0xE4#8, 0xE5#8, 0xE6#8, 0xE7#8,
     0xE8#8, 0xE9#8, 0xEA#8, 0xEB#8, 0xEC#8, 0xED#8, 0xEE#8, 0xEF#8].map (decodeAt · 0x34#8 0x12#8) =
    [.unhandledE0, .unhandledE1, .unhandledE2, .unhandledE3, .unhandledE4, .unhandledE5, .unhandledE6, .unhandledE7,
     .unhandledE8, .unhandledE9, .unhandledEA, .unhandledEB, .unhandledEC, .unhandledED, .unhandledEE, .unhandledEF] := rfl

theorem test_decode_row_F :
    [0xF0#8, 0xF1#8, 0xF2#8, 0xF3#8, 0xF4#8, 0xF5#8, 0xF6#8, 0xF7#8,
     0xF8#8, 0xF9#8, 0xFA#8, 0xFB#8, 0xFC#8, 0xFD#8, 0xFE#8, 0xFF#8].map (decodeAt · 0x34#8 0x12#8) =
    [.unhandledF0, .unhandledF1, .unhandledF2, .unhandledF3, .unhandledF4, .unhandledF5, .unhandledF6, .unhandledF7,
     .unhandledF8, .unhandledF9, .unhandledFA, .unhandledFB, .unhandledFC, .unhandledFD, .unhandledFE, .unhandledFF] := rfl

/-- A list of bytes that ends inside an instruction is rejected by name. -/
theorem test_decode_short : decode [0x20#8, 0x34#8] = .error (.missingOperand 0x20#8) := rfl

/-- As spec/opcode_table.json numbers bits, the first operand byte is bits 15..8; above nbits every bit is 0. -/
theorem test_table_word : decodeTableWord 16 0x34A9 = some (.ldaImm 0x34#8) := by decide
theorem test_table_word_three : decodeTableWord 24 0x123420 = some (.jsr 0x1234#16) := by decide
theorem test_table_word_short : decodeTableWord 8 0x12344C = some (.jmpAbs 0x0000#16) := by decide

/-! ## Single steps -/

/-- The reset state with the host's writes: bytes from `pc` up, single cells, and PC. -/
def loadAt (pc : Word) (bytes : List Byte) (cells : List (Word × Byte)) : State :=
  launch ((bytes.zipIdx.map fun b => HostWrite.mem (pc + BitVec.ofNat 16 b.2) b.1) ++
    cells.map (fun c => .mem c.1 c.2) ++ [.pc pc])

/-- The next state of one step satisfies the test. -/
def stepsTo (s : State) (f : State → Bool) : Bool :=
  match step s with
  | .next t => f t
  | _ => false

/-- Flags with every flag set but Z. -/
def allButZ : Flags := ⟨true, true, true, true, true, false, true⟩

/-- Flags with every flag set but N. -/
def allButN : Flags := ⟨false, true, true, true, true, true, true⟩

/-- S1: zero. -/
theorem test_step_lda_imm :
    stepsTo (loadAt 0xFFFC#16 [0xA9#8, 0x00#8] [])
      (fun t => t.a == 0x00#8 && t.p.z && !t.p.n && t.cyc == 2 && t.pc == 0xFFFE#16) = true := by decide

/-- V2: the other five flags kept. -/
theorem test_step_lda_imm_flags :
    stepsTo { loadAt 0x0200#16 [0xA9#8, 0x00#8] [] with p := allButZ }
      (fun t => t.p == allButN && t.cyc == 2) = true := by decide

/-- V4. -/
theorem test_step_lda_zp :
    stepsTo (loadAt 0x0200#16 [0xA5#8, 0xFF#8] [(0x00FF#16, 0x01#8)])
      (fun t => t.a == 0x01#8 && !t.p.z && t.cyc == 3 && t.pc == 0x0202#16) = true := by decide

/-- V5: wraps in page zero. -/
theorem test_step_lda_zpx :
    stepsTo { loadAt 0x0200#16 [0xB5#8, 0x80#8] [(0x007F#16, 0x37#8), (0x017F#16, 0x99#8)] with x := 0xFF#8 }
      (fun t => t.a == 0x37#8 && t.cyc == 4 && t.pc == 0x0202#16) = true := by decide

/-- V6: X = 0 still costs the internal cycle. -/
theorem test_step_lda_zpx_zero :
    stepsTo (loadAt 0x0200#16 [0xB5#8, 0x80#8] [(0x0080#16, 0xFE#8)])
      (fun t => t.a == 0xFE#8 && t.p.n && t.cyc == 4) = true := by decide

/-- V7. -/
theorem test_step_lda_abs :
    stepsTo (loadAt 0x0200#16 [0xAD#8, 0x80#8, 0x44#8] [(0x4480#16, 0x42#8)])
      (fun t => t.a == 0x42#8 && t.cyc == 4 && t.pc == 0x0203#16) = true := by decide

/-- V9: no crossing. -/
theorem test_step_lda_abs_x :
    stepsTo { loadAt 0x0200#16 [0xBD#8, 0x80#8, 0x44#8] [(0x44FF#16, 0x81#8)] with x := 0x7F#8 }
      (fun t => t.a == 0x81#8 && t.p.n && t.cyc == 4 && t.pc == 0x0203#16) = true := by decide

/-- V12: wraps past the top of memory. -/
theorem test_step_lda_abs_x_top :
    stepsTo { loadAt 0x0200#16 [0xBD#8, 0xFF#8, 0xFF#8] [(0x0001#16, 0xC0#8)] with x := 0x02#8 }
      (fun t => t.a == 0xC0#8 && t.cyc == 5) = true := by decide

/-- V13: Y, not X; crossing. -/
theorem test_step_lda_abs_y :
    stepsTo { loadAt 0x0200#16 [0xB9#8, 0x80#8, 0x44#8] [(0x457F#16, 0x00#8), (0x4481#16, 0x55#8)] with y := 0xFF#8, x := 0x01#8 }
      (fun t => t.a == 0x00#8 && t.p.z && t.cyc == 5) = true := by decide

/-- V14. -/
theorem test_step_lda_ind_x :
    stepsTo { loadAt 0x0200#16 [0xA1#8, 0x1C#8] [(0x0020#16, 0x80#8), (0x0021#16, 0x44#8), (0x4480#16, 0x11#8)] with x := 0x04#8 }
      (fun t => t.a == 0x11#8 && t.cyc == 6 && t.pc == 0x0202#16) = true := by decide

/-- V16: the high byte of the pointer is at 0100. -/
theorem test_step_lda_ind_x_high :
    stepsTo (loadAt 0x0200#16 [0xA1#8, 0xFF#8] [(0x00FF#16, 0x34#8), (0x0100#16, 0x12#8), (0x0000#16, 0x56#8), (0x1234#16, 0xAA#8), (0x5634#16, 0xBB#8)])
      (fun t => t.a == 0xAA#8 && t.cyc == 6) = true := by decide

/-- V17: no crossing. -/
theorem test_step_lda_ind_y :
    stepsTo { loadAt 0x0200#16 [0xB1#8, 0x20#8] [(0x0020#16, 0x80#8), (0x0021#16, 0x44#8), (0x4484#16, 0x21#8)] with y := 0x04#8 }
      (fun t => t.a == 0x21#8 && t.cyc == 5 && t.pc == 0x0202#16) = true := by decide

/-- V18: crossing. -/
theorem test_step_lda_ind_y_cross :
    stepsTo { loadAt 0x0200#16 [0xB1#8, 0x20#8] [(0x0020#16, 0x80#8), (0x0021#16, 0x44#8), (0x457F#16, 0xC3#8)] with y := 0xFF#8 }
      (fun t => t.a == 0xC3#8 && t.p.n && t.cyc == 6) = true := by decide

/-- V20: over a non-zero X. -/
theorem test_step_ldx_imm :
    stepsTo { loadAt 0x0200#16 [0xA2#8, 0x00#8] [] with x := 0x55#8 }
      (fun t => t.x == 0x00#8 && t.p.z && t.cyc == 2 && t.pc == 0x0202#16) = true := by decide

/-- V21. -/
theorem test_step_ldx_zp :
    stepsTo (loadAt 0x0200#16 [0xA6#8, 0x7E#8] [(0x007E#16, 0x01#8)])
      (fun t => t.x == 0x01#8 && t.a == 0x00#8 && t.cyc == 3) = true := by decide

/-- V22: wraps to 007E. -/
theorem test_step_ldx_zpy :
    stepsTo { loadAt 0x0200#16 [0xB6#8, 0xFF#8] [(0x007E#16, 0x01#8), (0x017E#16, 0x02#8)] with y := 0x7F#8 }
      (fun t => t.x == 0x01#8 && t.cyc == 4) = true := by decide

/-- V23. -/
theorem test_step_ldx_abs :
    stepsTo (loadAt 0x0200#16 [0xAE#8, 0x00#8, 0x30#8] [(0x3000#16, 0xFF#8)])
      (fun t => t.x == 0xFF#8 && t.p.n && t.cyc == 4 && t.pc == 0x0203#16) = true := by decide

/-- V24: crossing. -/
theorem test_step_ldx_abs_y :
    stepsTo { loadAt 0x0200#16 [0xBE#8, 0x01#8, 0x44#8] [(0x4500#16, 0x00#8)] with y := 0xFF#8, x := 0x01#8 }
      (fun t => t.x == 0x00#8 && t.p.z && t.cyc == 5) = true := by decide

/-- V25: the largest index that does not cross. -/
theorem test_step_ldx_abs_y_top :
    stepsTo { loadAt 0x0200#16 [0xBE#8, 0x00#8, 0x44#8] [(0x44FF#16, 0x90#8)] with y := 0xFF#8 }
      (fun t => t.x == 0x90#8 && t.cyc == 4) = true := by decide

/-- V26. -/
theorem test_step_ldy_imm :
    stepsTo (loadAt 0x0200#16 [0xA0#8, 0xFF#8] [])
      (fun t => t.y == 0xFF#8 && t.p.n && t.cyc == 2) = true := by decide

/-- V27. -/
theorem test_step_ldy_zp :
    stepsTo (loadAt 0x0200#16 [0xA4#8, 0x00#8] [(0x0000#16, 0x40#8)])
      (fun t => t.y == 0x40#8 && t.cyc == 3) = true := by decide

/-- V28: wraps to 0010. -/
theorem test_step_ldy_zpx :
    stepsTo { loadAt 0x0200#16 [0xB4#8, 0xF0#8] [(0x0010#16, 0x42#8)] with x := 0x20#8 }
      (fun t => t.y == 0x42#8 && t.x == 0x20#8 && t.cyc == 4) = true := by decide

/-- V29. -/
theorem test_step_ldy_abs :
    stepsTo (loadAt 0x0200#16 [0xAC#8, 0x34#8, 0x12#8] [(0x1234#16, 0x80#8)])
      (fun t => t.y == 0x80#8 && t.p.n && t.cyc == 4) = true := by decide

/-- V30: crossing. -/
theorem test_step_ldy_abs_x :
    stepsTo { loadAt 0x0200#16 [0xBC#8, 0xFE#8, 0x02#8] [(0x0302#16, 0x7F#8)] with x := 0x04#8 }
      (fun t => t.y == 0x7F#8 && t.cyc == 5 && t.pc == 0x0203#16) = true := by decide

/-- V32. -/
theorem test_step_jmp_abs :
    stepsTo { loadAt 0x0200#16 [0x4C#8, 0x34#8, 0x12#8] [] with p := allButZ }
      (fun t => t.pc == 0x1234#16 && t.p == allButZ && t.cyc == 3) = true := by decide

/-- V34: the operand wraps past the top of memory. -/
theorem test_step_jmp_abs_top :
    stepsTo (loadAt 0xFFFE#16 [0x4C#8, 0x00#8, 0x80#8] [])
      (fun t => t.pc == 0x8000#16 && t.cyc == 3) = true := by decide

/-- V35: one byte, nothing else. -/
theorem test_step_jmp_ind :
    stepsTo { loadAt 0x0200#16 [0x6C#8, 0xA9#8, 0x00#8] [] with a := 0x33#8 }
      (fun t => t.pc == 0x0201#16 && t.a == 0x33#8 && t.cyc == 1 && t.diag == none) = true := by decide

/-- V38: SP = 00, the high byte lands in page zero. -/
theorem test_step_jsr :
    stepsTo { loadAt 0x0200#16 [0x20#8, 0x00#8, 0x10#8] [] with sp := 0x00#8 }
      (fun t => t.sp == 0xFF#8 && t.pc == 0x1000#16 && t.mem.read 0x0100#16 == 0x02#8 && t.mem.read 0x00FF#16 == 0x02#8) = true := by decide

/-- V40: its own bytes lie in the cells it writes. -/
theorem test_step_jsr_own_bytes :
    stepsTo (loadAt 0x01FD#16 [0x20#8, 0x00#8, 0x05#8] [])
      (fun t => t.pc == 0x0500#16 && t.cyc == 6 && t.mem.read 0x01FF#16 == 0xFF#8 && t.mem.read 0x01FE#16 == 0x01#8) = true := by decide

/-- V43: nothing stored, no operand consumed. -/
theorem test_step_unhandled :
    stepsTo { loadAt 0x0200#16 [0x85#8, 0x10#8] [] with a := 0x77#8 }
      (fun t => t.pc == 0x0201#16 && t.cyc == 1 && t.diag == some 0x85#8 && t.mem.read 0x0010#16 == 0x00#8) = true := by decide

/-- V44: PC wraps. -/
theorem test_step_unhandled_top :
    stepsTo (loadAt 0xFFFF#16 [0xFF#8] [])
      (fun t => t.pc == 0x0000#16 && t.diag == some 0xFF#8) = true := by decide

/-- V48, its first execute: memory that nothing wrote is the unhandled byte 00. -/
theorem test_step_from_reset :
    stepsTo State.reset (fun t => t.pc == 0xFFFD#16 && t.diag == some 0x00#8 && t.cycTotal == 1) = true := by decide

/-- V49: an execute before the first reset is refused. -/
theorem test_step_before_reset :
    step { State.reset with runState := .reset } = .refused .executeBeforeReset := rfl

/-- The step after `withFetchWord` runs the table word's instruction. -/
theorem test_with_fetch_word :
    stepsTo (State.reset.withFetchWord 24 0x424220) (fun t => t.pc == 0x4242#16 && t.sp == 0xFE#8) = true := by decide

/-- V51: a host write to A leaves the flags alone. -/
theorem test_host_write : (launch [.reg .a 0x00#8]).p.z = false := rfl

/-- `Run(1)` on a JSR executes it whole: the overshoot is the largest there is. -/
theorem test_run_overshoots :
    (match runBudget 1 (loadAt 0x0200#16 [0x20#8, 0x00#8, 0x10#8] []) with
      | .next r => r.1 == 6
      | _ => false) = true := by decide

/-- A write of what an unlisted address reads as removes the entry. -/
theorem test_memory_canonical :
    Memory.write (Memory.write [] 0x0005#16 0x01#8) 0x0005#16 0x00#8 = [] := by decide

/-! ## Witnesses: for every statement with hypotheses, a state and operands that meet all of them together -/

theorem witness_decodeOfEncode :
    (Instr.ldaIndY 0xFF#8).wellFormed = true ∧ Instr.unhandled85.wellFormed = true := by decide

theorem witness_encodeOfDecode : decode [0xA9#8, 0x80#8, 0x55#8] = .ok (.ldaImm 0x80#8, [0x55#8]) := rfl

/-- Both sides of the equivalence occur. -/
theorem witness_otherBytes : 0xB1#8 ∈ handledBytes ∧ 0xB2#8 ∉ handledBytes := by decide

/-- Each clause at its boundary: for 0, 1 and 2 operand bytes, exactly enough bytes, and one too few. -/
theorem witness_length :
    operandCount 0x00#8 ≤ ([] : List Byte).length ∧ operandCount 0xA9#8 ≤ [0x00#8].length ∧
    operandCount 0x20#8 ≤ [0x00#8, 0x00#8].length ∧
    ([] : List Byte).length < operandCount 0xA9#8 ∧ [0x00#8].length < operandCount 0x20#8 := by decide

/-- The state of S1, for a step that decodes a load. -/
def s1 : State := loadAt 0xFFFC#16 [0xA9#8, 0x00#8] []

theorem witness_stepRuns :
    s1.runState = .running ∧
    decode [s1.mem.read s1.pc, s1.mem.read (s1.pc + 1#16), s1.mem.read (s1.pc + 2#16)] =
      .ok (.ldaImm 0x00#8, [0x00#8]) := ⟨rfl, rfl⟩

theorem witness_beforeReset : ({ State.reset with runState := .reset } : State).runState = .reset := rfl

/-- The last clause, at the two ends of memory. -/
theorem witness_memWrite : (0xFFFF#16 : Word) ≠ 0x0000#16 ∧ (0x0000#16 : Word) ≠ 0xFFFF#16 := by decide

/-- Two memories built differently that read alike: the hypotheses of the statement, at a boundary address. -/
theorem witness_canonicalMemory :
    Memory.wf [(65535, 0x01#8)] = true ∧ (Memory.write [] 0xFFFF#16 0x01#8).wf = true ∧
    ∀ a, Memory.read [(65535, 0x01#8)] a = (Memory.write [] 0xFFFF#16 0x01#8).read a :=
  ⟨rfl, rfl, fun _ => rfl⟩

/-- The last clause, where the address below wraps to the top. -/
theorem witness_wordWrite :
    let saddr : Word := 0x0000#16
    (0x0001#16 : Word) ≠ saddr ∧ (0x0001#16 : Word) ≠ saddr - 1#16 := by decide

/-- Both sides of the carry test at its boundary, and the index zero of the last clause. -/
theorem witness_pageCrossing :
    crossed 0x4400#16 (eaAbsIdx 0x4400#16 0xFF#8) = false ∧ crossed 0x4401#16 (eaAbsIdx 0x4401#16 0xFF#8) = true ∧
    crossed 0xFFFF#16 (eaAbsIdx 0xFFFF#16 0x01#8) = true ∧ (0x00#8 : Byte) = 0x00#8 := by decide

theorem witness_unhandled :
    Instr.unhandled00.opcode ∉ handledBytes ∧ Instr.unhandledB2.opcode ∉ handledBytes ∧
    Instr.unhandledFF.opcode ∉ handledBytes := by decide

/-- What the statements about a byte in memory ask of a state. -/
def holds (s : State) (b0 b1 b2 : Byte) : Prop :=
  s.runState = .running ∧ s.mem.read s.pc = b0 ∧ s.mem.read (s.pc + 1#16) = b1 ∧ s.mem.read (s.pc + 2#16) = b2

/-- Any three bytes can stand at any PC: three writes and a PC meet the hypotheses of every statement about a byte in
memory, at the top of memory too. -/
theorem witness_bytesInMemory :
    holds (loadAt 0xFFFE#16 [0xA9#8, 0x80#8] []) 0xA9#8 0x80#8 0x00#8 ∧
    holds (loadAt 0x0200#16 [0xB5#8, 0x80#8] []) 0xB5#8 0x80#8 0x00#8 ∧
    holds (loadAt 0x0200#16 [0xA1#8, 0xFF#8] []) 0xA1#8 0xFF#8 0x00#8 ∧
    holds (loadAt 0x0200#16 [0xB1#8, 0xFF#8] []) 0xB1#8 0xFF#8 0x00#8 := by
  unfold holds; decide

/-- The two clauses of the jumps and the hypotheses of JSR, each with its byte. -/
theorem witness_jumpsAndJsr :
    holds (loadAt 0xFFFE#16 [0x4C#8, 0x00#8, 0x80#8] []) 0x4C#8 0x00#8 0x80#8 ∧
    holds (loadAt 0x0200#16 [0x6C#8, 0xA9#8] []) 0x6C#8 0xA9#8 0x00#8 ∧
    holds (loadAt 0x01FD#16 [0x20#8, 0x00#8, 0x05#8] []) 0x20#8 0x00#8 0x05#8 := by
  unfold holds; decide

/-- Every (byte, register) pair the list statements name, each with a state. -/
theorem witness_listedLoads :
    (∀ q ∈ [(0xA2#8, DataReg.x), (0xA0#8, .y), (0xA5#8, .a), (0xA6#8, .x), (0xA4#8, .y), (0xAD#8, .a), (0xAE#8, .x),
            (0xAC#8, .y)],
      (loadAt 0x0200#16 [q.1, 0xFF#8, 0xFF#8] []).runState = .running ∧
      (loadAt 0x0200#16 [q.1, 0xFF#8, 0xFF#8] []).mem.read 0x0200#16 = q.1 ∧
      (loadAt 0x0200#16 [q.1, 0xFF#8, 0xFF#8] []).mem.read 0x0201#16 = 0xFF#8 ∧
      (loadAt 0x0200#16 [q.1, 0xFF#8, 0xFF#8] []).mem.read 0x0202#16 = 0xFF#8) := by decide

/-- The same for the indexed forms, on both sides of the page crossing. -/
theorem witness_listedIndexedLoads :
    (∀ q ∈ [(0xB6#8, DataReg.x, DataReg.y), (0xB4#8, .y, .x), (0xBD#8, .a, .x), (0xB9#8, .a, .y), (0xBE#8, .x, .y),
            (0xBC#8, .y, .x)],
      let s := { loadAt 0x0200#16 [q.1, 0x01#8, 0xFF#8] [] with x := 0xFF#8, y := 0xFE#8 }
      s.runState = .running ∧ s.mem.read s.pc = q.1 ∧ s.mem.read (s.pc + 1#16) = 0x01#8 ∧
      s.mem.read (s.pc + 2#16) = 0xFF#8 ∧
      (255 < (0x01#8 : Byte).toNat + (getReg .x s).toNat) ∧ ¬(255 < (0x01#8 : Byte).toNat + (getReg .y s).toNat)) := by
  decide

theorem witness_unhandledByte :
    (State.reset).runState = .running ∧ State.reset.mem.read State.reset.pc = 0x00#8 ∧ 0x00#8 ∉ handledBytes := by
  decide

/-- A load, a jump, a call and an unhandled instruction each answer a next state, and each clause of the frame applies
to one of them. -/
theorem witness_frame :
    (∃ t, exec (.ldxImm 0x80#8) State.reset = .next t) ∧ loadDest (.ldxImm 0x80#8) ≠ some .a ∧
    (∃ t, exec (.jmpAbs 0x0200#16) State.reset = .next t) ∧ loadDest (.jmpAbs 0x0200#16) = none ∧
    (∃ t, exec (.jsr 0x0200#16) State.reset = .next t) ∧
    (0x0200#16 : Word) ≠ stackAddr State.reset.sp ∧ (0x0200#16 : Word) ≠ stackAddr State.reset.sp - 1#16 ∧
    (∃ t, exec .unhandled85 State.reset = .next t) ∧ (Instr.ldxImm 0x80#8).entry ≠ .unhandled :=
  ⟨⟨_, rfl⟩, by decide, ⟨_, rfl⟩, rfl, ⟨_, rfl⟩, by decide, by decide, ⟨_, rfl⟩, by decide⟩

theorem witness_loadPostcondition :
    loadDest (fetchInstr s1) = some .a ∧ ∃ t, step s1 = .next t := ⟨rfl, _, rfl⟩

/-- Each clause: a step of no load, a step of a load, a Running core for a host write. -/
theorem witness_flagsNotWritten :
    (∃ t, step State.reset = .next t) ∧ loadDest (fetchInstr State.reset) = none ∧
    (∃ t, step s1 = .next t) ∧ loadDest (fetchInstr s1) = some .a ∧ State.reset.runState = .running :=
  ⟨⟨_, rfl⟩, rfl, ⟨_, rfl⟩, rfl, rfl⟩

theorem witness_loadTwice :
    (loadDest (.ldaZp 0x80#8)).isSome = true ∧ ∃ t u, exec (.ldaZp 0x80#8) State.reset = .next t ∧
      exec (.ldaZp 0x80#8) { t with pc := State.reset.pc } = .next u := ⟨rfl, _, _, rfl, rfl⟩

/-- For the statements whose hypothesis is that a step answers a next state: cycles, PC, events. -/
theorem witness_step : ∃ t, step State.reset = .next t := ⟨_, rfl⟩

/-- A step, and a state that differs from its start in A, the flags, the counters, `diag` and the events. -/
theorem witness_stepIgnores :
    let s' := { s1 with a := 0xFF#8, p := allButZ, cycTotal := 9, cyc := 3, diag := some 0x02#8, events := [.read 0#16] }
    (∃ t, step s1 = .next t) ∧ s'.x = s1.x ∧ s'.y = s1.y ∧ s'.sp = s1.sp ∧ s'.pc = s1.pc ∧ s'.mem = s1.mem ∧
      s'.runState = s1.runState ∧ loadDest (fetchInstr s1) = some .a :=
  ⟨⟨_, rfl⟩, rfl, rfl, rfl, rfl, rfl, rfl, rfl⟩

/-- The invariant's premise holds of reset, and a step from there answers. -/
theorem witness_invariant : Machine.Inv State.reset ∧ ∃ t, step State.reset = .next t :=
  ⟨by unfold Machine.Inv; decide, _, rfl⟩

/-- For the statements whose only hypothesis is a Running core. -/
theorem witness_running : State.reset.runState = .running ∧ s1.runState = .running := ⟨rfl, rfl⟩

theorem witness_transactions :
    State.reset.mem.wf = true ∧ (∃ t, transact .reset State.reset = .next t) ∧
    (∃ t, transact .execute State.reset = .next t) ∧
    ∃ t, transact (.write (.mem 0xFFFF#16 0xFF#8)) State.reset = .next t :=
  ⟨rfl, ⟨_, rfl⟩, ⟨_, rfl⟩, ⟨_, rfl⟩⟩

theorem witness_unprogrammed :
    State.reset.runState = .running ∧ (∀ q, State.reset.mem.read q = 0x00#8) ∧ (0 : Nat) < 1 :=
  ⟨rfl, fun _ => rfl, by decide⟩

/-- Two calls, from SP = 0xFF and from SP = 0x00: one for each of the last two clauses. -/
theorem witness_nestedJsr :
    (∃ u w, exec (.jsr 0x0300#16) State.reset = .next u ∧
      exec (.jsr 0x0400#16) { u with pc := 0x0301#16 } = .next w) ∧ State.reset.sp ≠ 0x00#8 ∧
    ∃ u w, exec (.jsr 0x0300#16) { State.reset with sp := 0x00#8 } = .next u ∧
      exec (.jsr 0x0400#16) { u with pc := 0x0301#16 } = .next w :=
  ⟨⟨_, _, rfl, rfl⟩, by decide, _, _, rfl, rfl⟩

/-- JSR $01FE from SP = 0xFF. -/
theorem witness_jsrIntoItsStackWord :
    let s := loadAt 0x0200#16 [0x20#8, 0xFE#8, 0x01#8] []
    fetchInstr s = .jsr (stackAddr s.sp - 1#16) ∧ ∃ t, step s = .next t := ⟨rfl, _, rfl⟩


end Sys2Proof.Tests
end

section
/-! ## What an instruction's meaning does, for proofs about all instructions

Five kinds of instruction: a load, JMP absolute, the placeholder, JSR and an unhandled byte. One equation per kind says
what `exec` answers. -/

namespace Sys2Proof.Machine

/-- What the addressing mode of a load does after the opcode fetch (spec/40_fetch_and_addressing.md R76 to R84): the byte
it answers, and how many bytes it consumes, cycles it charges and reads it makes. -/
structure LoadAccess where
  value : Byte
  len : Word
  cycles : Nat
  reads : List MemEvent

/-- The access of each load, from the only four fields a mode reads; PC is at the byte after the opcode. Of an instruction
that is no load nothing is asked. -/
def loadAccess (i : Instr) (x y : Byte) (pc : Word) (m : Memory) : LoadAccess :=
  match i with
  | .ldaImm d8 | .ldxImm d8 | .ldyImm d8 => ⟨d8, 1#16, 1, [.read pc]⟩
  | .ldaZp d8 | .ldxZp d8 | .ldyZp d8 => ⟨m.read (eaZp d8), 1#16, 2, [.read pc, .read (eaZp d8)]⟩
  | .ldaZpX d8 | .ldyZpX d8 => ⟨m.read (eaZpIdx d8 x), 1#16, 3, [.read pc, .read (eaZpIdx d8 x)]⟩
  | .ldxZpY d8 => ⟨m.read (eaZpIdx d8 y), 1#16, 3, [.read pc, .read (eaZpIdx d8 y)]⟩
  | .ldaAbs addr | .ldxAbs addr | .ldyAbs addr =>
    ⟨m.read addr, 2#16, 3, [.read pc, .read (pc + 1#16), .read addr]⟩
  | .ldaAbsX base | .ldyAbsX base =>
    let ea := eaAbsIdx base x
    ⟨m.read ea, 2#16, 3 + if crossed base ea then 1 else 0, [.read pc, .read (pc + 1#16), .read ea]⟩
  | .ldaAbsY base | .ldxAbsY base =>
    let ea := eaAbsIdx base y
    ⟨m.read ea, 2#16, 3 + if crossed base ea then 1 else 0, [.read pc, .read (pc + 1#16), .read ea]⟩
  | .ldaIndX d8 =>
    let ptr := eaZpIdx d8 x
    let ea := ptrTarget m ptr
    ⟨m.read ea, 1#16, 5, [.read pc, .read ptr, .read (ptrHighAddr ptr), .read ea]⟩
  | .ldaIndY d8 =>
    let base := ptrTarget m (eaZp d8)
    let ea := eaAbsIdx base y
    ⟨m.read ea, 1#16, 4 + if crossed base ea then 1 else 0,
      [.read pc, .read (eaZp d8), .read (ptrHighAddr (eaZp d8)), .read ea]⟩
  | _ => ⟨0x00#8, 0#16, 0, []⟩

/-- Every read of a load is paid for (R70), and beside the opcode fetch a load costs at most five cycles (R154). -/
theorem loadAccess_cost (i : Instr) (x y : Byte) (pc : Word) (m : Memory) :
    (loadAccess i x y pc m).reads.length ≤ (loadAccess i x y pc m).cycles ∧ (loadAccess i x y pc m).cycles ≤ 5 := by
  unfold loadAccess
  split <;> simp
  all_goals split <;> omega

/-- `s` after a load of `r` whose mode made the access `e`. -/
def afterLoad (r : DataReg) (e : LoadAccess) (s : State) : State :=
  loaded r e.value { s with pc := s.pc + e.len, cyc := s.cyc + e.cycles, events := s.events ++ e.reads }

/-- The load template (R89) around the answer of a mode. -/
theorem next_load {r : DataReg} {operand : Byte × State} {e : LoadAccess} {s : State}
    (h : operand =
      (e.value, { s with pc := s.pc + e.len, cyc := s.cyc + e.cycles, events := s.events ++ e.reads })) :
    Host.Outcome.next (φ := Fault) (ρ := Refusal) (load r operand) = .next (afterLoad r e s) := by
  rw [h, load_eq]
  rfl

/-- Every load is the template of R89 at its mode and its destination. -/
theorem exec_load {i : Instr} {r : DataReg} (h : loadDest i = some r) (s : State) :
    exec i s = .next (afterLoad r (loadAccess i s.x s.y s.pc s.mem) s) := by
  cases i using instr_cases with
  | ldaImm d8 => cases h; exact next_load (operandImm_eq d8 s)
  | ldaZp d8 => cases h; exact next_load (operandZp_eq d8 s)
  | ldaZpX d8 => cases h; exact next_load (operandZpX_eq d8 s)
  | ldaAbs addr => cases h; exact next_load (operandAbs_eq addr s)
  | ldaAbsX base => cases h; exact next_load (by rw [operandAbsX_eq, Nat.add_assoc]; rfl)
  | ldaAbsY base => cases h; exact next_load (by rw [operandAbsY_eq, Nat.add_assoc]; rfl)
  | ldaIndX d8 => cases h; exact next_load (operandIndX_eq d8 s)
  | ldaIndY d8 => cases h; exact next_load (by rw [operandIndY_eq, Nat.add_assoc]; rfl)
  | ldxImm d8 => cases h; exact next_load (operandImm_eq d8 s)
  | ldxZp d8 => cases h; exact next_load (operandZp_eq d8 s)
  | ldxZpY d8 => cases h; exact next_load (operandZpY_eq d8 s)
  | ldxAbs addr => cases h; exact next_load (operandAbs_eq addr s)
  | ldxAbsY base => cases h; exact next_load (by rw [operandAbsY_eq, Nat.add_assoc]; rfl)
  | ldyImm d8 => cases h; exact next_load (operandImm_eq d8 s)
  | ldyZp d8 => cases h; exact next_load (operandZp_eq d8 s)
  | ldyZpX d8 => cases h; exact next_load (operandZpX_eq d8 s)
  | ldyAbs addr => cases h; exact next_load (operandAbs_eq addr s)
  | ldyAbsX base => cases h; exact next_load (by rw [operandAbsX_eq, Nat.add_assoc]; rfl)
  | jmpAbs target => cases h
  | jmpInd => cases h
  | jsr target => cases h
  | unhandled i hi => simp [loadDest, hi] at h

/-- JMP absolute's whole effect (R110). -/
theorem exec_jmpAbs (target : Word) (s : State) :
    exec (.jmpAbs target) s = .next
      { s with pc := target, cyc := s.cyc + 2, events := s.events ++ [.read s.pc, .read (s.pc + 1#16)] } := by
  show execJmpAbs target s = _
  rw [execJmpAbs, passWord_eq]

/-- The placeholder has no effect after its opcode fetch (R111). -/
theorem exec_jmpInd (s : State) : exec .jmpInd s = .next s := rfl

/-- `exec` at JSR; `execJsr_eq` says its effect. -/
theorem exec_jsr (target : Word) (s : State) : exec (.jsr target) s = execJsr target s := rfl

theorem loadDest_unhandled {i : Instr} (h : i.entry = .unhandled) : loadDest i = none := by
  simp [loadDest, h]

/-- A property of every instruction, from the five kinds. -/
theorem instr_kinds {P : Instr → Prop}
    (load : ∀ i r, loadDest i = some r → P i)
    (jmpAbs : ∀ target, P (.jmpAbs target))
    (jmpInd : P .jmpInd)
    (jsr : ∀ target, P (.jsr target))
    (unhandled : ∀ i : Instr, i.entry = .unhandled → P i) (i : Instr) : P i := by
  cases i using instr_cases with
  | jmpAbs target => exact jmpAbs target
  | jmpInd => exact jmpInd
  | jsr target => exact jsr target
  | unhandled i hi => exact unhandled i hi
  | _ => exact load _ _ rfl

@[simp] theorem getReg_afterLoad (r q : DataReg) (e : LoadAccess) (s : State) :
    getReg q (afterLoad r e s) = if q = r then e.value else getReg q s := by
  cases r <;> cases q <;> rfl

@[simp] theorem afterLoad_p (r : DataReg) (e : LoadAccess) (s : State) :
    (afterLoad r e s).p = { s.p with z := e.value == 0x00#8, n := e.value.getLsbD 7 } := rfl
@[simp] theorem afterLoad_sp (r : DataReg) (e : LoadAccess) (s : State) : (afterLoad r e s).sp = s.sp := rfl
@[simp] theorem afterLoad_pc (r : DataReg) (e : LoadAccess) (s : State) : (afterLoad r e s).pc = s.pc + e.len := rfl
@[simp] theorem afterLoad_mem (r : DataReg) (e : LoadAccess) (s : State) : (afterLoad r e s).mem = s.mem := rfl
@[simp] theorem afterLoad_cyc (r : DataReg) (e : LoadAccess) (s : State) :
    (afterLoad r e s).cyc = s.cyc + e.cycles := rfl
@[simp] theorem afterLoad_events (r : DataReg) (e : LoadAccess) (s : State) :
    (afterLoad r e s).events = s.events ++ e.reads := rfl
@[simp] theorem afterLoad_cycTotal (r : DataReg) (e : LoadAccess) (s : State) :
    (afterLoad r e s).cycTotal = s.cycTotal := rfl
@[simp] theorem afterLoad_diag (r : DataReg) (e : LoadAccess) (s : State) : (afterLoad r e s).diag = s.diag := rfl
@[simp] theorem afterLoad_runState (r : DataReg) (e : LoadAccess) (s : State) :
    (afterLoad r e s).runState = s.runState := rfl

end Sys2Proof.Machine
end

section
/-! ## The invariant of every step -/

namespace Sys2Proof.Machine

/-- The two detectors of R74 never answer true of one byte. -/
theorem not_zero_and_bit7 (v : Byte) : ¬((v == 0x00#8) = true ∧ v.getLsbD 7 = true) := by
  rintro ⟨hz, hn⟩
  rw [beq_iff_eq] at hz
  subst hz
  contradiction

/-- What `Inv` asks of the state that an instruction leaves before its cycles are added to CYC. -/
theorem inv_endExecute {u : State} (hmem : u.mem.wf = true) (hrun : u.runState = .running)
    (hflags : ¬(u.p.z = true ∧ u.p.n = true)) (hcyc : u.cyc ≤ 6) (hevents : u.events.length ≤ u.cyc) :
    Inv (endExecute u) :=
  ⟨hmem, hrun, hflags, hcyc, Nat.le_add_left _ _, hevents⟩

/-- Every instruction, started by the opcode fetch, leaves a state whose execute ends in `Inv`. -/
theorem inv_of_exec {i : Instr} {s u : State} (hs : Inv s) (hu : exec i (beginExecute s) = .next u) :
    Inv (endExecute u) := by
  obtain ⟨hmem, hrun, hflags, -, -, -⟩ := hs
  cases i using instr_kinds with
  | load i r hi =>
    rw [exec_load hi] at hu
    cases hu
    obtain ⟨hreads, hcycles⟩ := loadAccess_cost i s.x s.y (s.pc + 1#16) s.mem
    refine inv_endExecute hmem hrun (not_zero_and_bit7 _) ?_ ?_ <;> simp <;> omega
  | jmpAbs target =>
    rw [exec_jmpAbs] at hu
    cases hu
    exact inv_endExecute hmem hrun hflags (by simp) (by simp)
  | jmpInd =>
    rw [exec_jmpInd] at hu
    cases hu
    exact inv_endExecute hmem hrun hflags (by simp) (by simp)
  | jsr target =>
    rw [exec_jsr, execJsr_eq] at hu
    cases hu
    exact inv_endExecute (Memory.wf_write _ _ _ (Memory.wf_write _ _ _ hmem)) hrun hflags (by simp) (by simp)
  | unhandled i hi =>
    rw [exec_unhandled i hi] at hu
    cases hu
    exact inv_endExecute hmem hrun hflags (by simp) (by simp)

/-- Settles O52: the execute transaction begins and ends around an instruction that keeps what `Inv` asks. -/
theorem stepKeepsTheInvariant : Obligations.StepKeepsTheInvariant := by
  intro s t hs ht
  obtain ⟨-, u, hu, rfl⟩ := step_next ht
  exact inv_of_exec hs hu

end Sys2Proof.Machine
end

section
/-! ## The frame of every instruction, and the flags -/

namespace Sys2Proof.Machine

/-- What the instruction `i` leaves unchanged between `s` and `t`. -/
structure Frame (i : Instr) (s t : State) : Prop where
  reg : ∀ r, loadDest i ≠ some r → getReg r t = getReg r s
  flags : loadDest i = none → t.p = s.p
  flagsNeverWritten : t.p.v = s.p.v ∧ t.p.b = s.p.b ∧ t.p.d = s.p.d ∧ t.p.i = s.p.i ∧ t.p.c = s.p.c
  sp : (∀ target, i ≠ .jsr target) → t.sp = s.sp
  mem : ∀ q : Word, ((∃ target, i = .jsr target) → q ≠ stackAddr s.sp ∧ q ≠ stackAddr s.sp - 1#16) →
    t.mem.read q = s.mem.read q
  cycTotal : t.cycTotal = s.cycTotal
  runState : t.runState = s.runState
  diag : i.entry ≠ .unhandled → t.diag = s.diag

/-- A move of PC, cycles, events and, for an unhandled opcode, `diag` stays inside every instruction's frame. -/
theorem frame_of_control (i : Instr) (s : State) (pc : Word) (cyc : Nat) (events : List MemEvent) {diag : Option Byte}
    (h : i.entry ≠ .unhandled → diag = s.diag) :
    Frame i s { s with pc := pc, cyc := cyc, events := events, diag := diag } where
  reg r _ := by cases r <;> rfl
  flags _ := rfl
  flagsNeverWritten := ⟨rfl, rfl, rfl, rfl, rfl⟩
  sp _ := rfl
  mem _ _ := rfl
  cycTotal := rfl
  runState := rfl
  diag := h

/-- A load writes its destination, Z and N. -/
theorem frame_of_load {i : Instr} {r : DataReg} (h : loadDest i = some r) (e : LoadAccess) (s : State) :
    Frame i s (afterLoad r e s) where
  reg q hq := by
    have hne : q ≠ r := by rintro rfl; exact hq h
    rw [getReg_afterLoad, if_neg hne]
  flags hnone := by simp [h] at hnone
  flagsNeverWritten := ⟨rfl, rfl, rfl, rfl, rfl⟩
  sp _ := rfl
  mem _ _ := rfl
  cycTotal := rfl
  runState := rfl
  diag _ := rfl

/-- JSR writes SP and its two stack cells. -/
theorem frame_of_jsr (target : Word) {s t : State} (h : execJsr target s = .next t) : Frame (.jsr target) s t := by
  rw [execJsr_eq] at h
  cases h
  exact {
    reg := fun r _ => by cases r <;> rfl
    flags := fun _ => rfl
    flagsNeverWritten := ⟨rfl, rfl, rfl, rfl, rfl⟩
    sp := fun hne => absurd rfl (hne target)
    mem := fun q hq => by
      obtain ⟨hlow, hhigh⟩ := hq ⟨target, rfl⟩
      simp [hlow, hhigh]
    cycTotal := rfl
    runState := rfl
    diag := fun _ => rfl }

/-- Every instruction stays inside its frame (spec/10_state.md R10, R16, R17). -/
theorem exec_frame {i : Instr} {s t : State} (h : exec i s = .next t) : Frame i s t := by
  cases i using instr_kinds with
  | load i r hi =>
    rw [exec_load hi] at h
    cases h
    exact frame_of_load hi _ s
  | jmpAbs target =>
    rw [exec_jmpAbs] at h
    cases h
    exact frame_of_control _ s _ _ _ fun _ => rfl
  | jmpInd =>
    rw [exec_jmpInd] at h
    cases h
    exact frame_of_control _ s _ _ _ fun _ => rfl
  | jsr target => exact frame_of_jsr target h
  | unhandled i hi =>
    rw [exec_unhandled i hi] at h
    cases h
    exact frame_of_control _ s _ _ _ fun hne => absurd hi hne

/-- Settles O42, from the frame of each kind of instruction. -/
theorem frameOfEveryInstruction : Obligations.FrameOfEveryInstruction := by
  intro i s t h
  obtain ⟨hreg, hflags, hnever, hsp, hmem, hcyc, hrun, hdiag⟩ := exec_frame h
  exact ⟨hreg, hflags, hnever, hsp, hmem, hcyc, hrun, hdiag⟩

/-- After a load Z and N are those of the register loaded (R89). -/
theorem flags_of_load {i : Instr} {r : DataReg} {s t : State} (hi : loadDest i = some r) (h : exec i s = .next t) :
    (t.p.z = true ↔ getReg r t = 0x00#8) ∧ t.p.n = (getReg r t).getLsbD 7 := by
  rw [exec_load hi] at h
  cases h
  simp

@[simp] theorem getReg_endExecute (r : DataReg) (s : State) : getReg r (endExecute s) = getReg r s := by
  cases r <;> rfl

/-- A host write to a register changes no flag (R147). -/
theorem transact_write_reg {s : State} (r : DataReg) (v : Byte) (h : s.runState = .running) :
    transact (.write (.reg r v)) s = .next (setReg r v s) := by
  simp [transact, h, hostWrite]

/-- Settles O43: the frame gives the flags kept, the load template the two written; the reset state and a host write to a
register show that Z and N are no invariant. -/
theorem flagsNotWrittenAreKept : Obligations.FlagsNotWrittenAreKept := by
  refine ⟨fun s t ht => ?_, fun s => ⟨State.reset, rfl, rfl, rfl, rfl, rfl⟩, fun s r v hs => ?_⟩
  · obtain ⟨-, u, hu, rfl⟩ := step_next ht
    have hframe := exec_frame hu
    refine ⟨hframe.flagsNeverWritten, hframe.flags, fun r hr => ?_⟩
    simpa using flags_of_load hr hu
  · exact ⟨setReg r v s, transact_write_reg r v hs, by simp, by simp⟩

end Sys2Proof.Machine
end

section
/-! ## How PC moves -/

namespace Sys2Proof.Machine

/-- The bytes a load's mode consumes are those the table of R13 gives it beside the opcode. -/
theorem nextPc_of_load {i : Instr} {r : DataReg} (h : loadDest i = some r) (s : State) (x y : Byte) (pc : Word)
    (m : Memory) : nextPc i s = s.pc + 1#16 + (loadAccess i x y pc m).len := by
  cases i using instr_cases with
  | jmpAbs target => cases h
  | jmpInd => cases h
  | jsr target => cases h
  | unhandled i hi => simp [loadDest, hi] at h
  | _ => simp [nextPc, loadAccess, Instr.entry]

theorem nextPc_of_unhandled {i : Instr} (h : i.entry = .unhandled) (s : State) : nextPc i s = s.pc + 1#16 := by
  unfold nextPc
  split
  · cases h
  · cases h
  · rw [h]

/-- Settles O49, kind by kind: a load by its mode's bytes, a jump and a call by their target, the others by the opcode
alone. -/
theorem pcAdvancesAsTheTableSays : Obligations.PcAdvancesAsTheTableSays := by
  intro s t ht
  obtain ⟨-, u, hu, rfl⟩ := step_next ht
  generalize fetchInstr s = i at hu ⊢
  cases i using instr_kinds with
  | load i r hi =>
    rw [exec_load hi] at hu
    cases hu
    exact (nextPc_of_load hi s _ _ _ _).symm
  | jmpAbs target =>
    rw [exec_jmpAbs] at hu
    cases hu
    rfl
  | jmpInd =>
    rw [exec_jmpInd] at hu
    cases hu
    rfl
  | jsr target =>
    rw [exec_jsr, execJsr_eq] at hu
    cases hu
    rfl
  | unhandled i hi =>
    rw [exec_unhandled i hi] at hu
    cases hu
    exact (nextPc_of_unhandled hi s).symm

end Sys2Proof.Machine
end

section
/-! ## What no instruction reads

Two states that agree on all but A, the flags and CYC are one state with these three fields replaced. -/

namespace Sys2Proof.Machine

/-- `s` with another A, other flags and another CYC. -/
def withUnread (a : Byte) (p : Flags) (cycTotal : Nat) (s : State) : State :=
  { s with a := a, p := p, cycTotal := cycTotal }

/-- Two states that agree on what a step reads begin their executes in states that differ in the unread fields alone. -/
theorem beginExecute_withUnread {s s' : State} (hx : s'.x = s.x) (hy : s'.y = s.y) (hsp : s'.sp = s.sp)
    (hpc : s'.pc = s.pc) (hmem : s'.mem = s.mem) (hrun : s'.runState = s.runState) :
    beginExecute s' = withUnread s'.a s'.p s'.cycTotal (beginExecute s) := by
  cases s
  cases s'
  cases hx
  cases hy
  cases hsp
  cases hpc
  cases hmem
  cases hrun
  rfl

/-- Replacing the unread fields before an instruction replaces them after it, but for what a load writes. -/
theorem exec_withUnread {i : Instr} {s u : State} (h : exec i s = .next u) (a : Byte) (p : Flags) (cycTotal : Nat) :
    ∃ a' p', exec i (withUnread a p cycTotal s) = .next (withUnread a' p' cycTotal u) ∧
      (loadDest i = some .a → a' = u.a) ∧ (loadDest i ≠ none → p'.z = u.p.z ∧ p'.n = u.p.n) := by
  cases i using instr_kinds with
  | load i r hi =>
    rw [exec_load hi] at h
    cases h
    refine ⟨_, _, exec_load hi _, fun ha => ?_, fun _ => ⟨rfl, rfl⟩⟩
    cases hi.symm.trans ha
    rfl
  | jmpAbs target =>
    rw [exec_jmpAbs] at h
    cases h
    exact ⟨a, p, exec_jmpAbs _ _, nofun, fun hne => absurd rfl hne⟩
  | jmpInd =>
    rw [exec_jmpInd] at h
    cases h
    exact ⟨a, p, exec_jmpInd _, nofun, fun hne => absurd rfl hne⟩
  | jsr target =>
    rw [exec_jsr, execJsr_eq] at h
    cases h
    exact ⟨a, p, execJsr_eq _ _, nofun, fun hne => absurd rfl hne⟩
  | unhandled i hi =>
    rw [exec_unhandled i hi] at h
    cases h
    have hnone := loadDest_unhandled hi
    exact ⟨a, p, exec_unhandled i hi _, by simp [hnone], fun hne => absurd hnone hne⟩

/-- Settles O51: both steps run one instruction, from states that differ in the unread fields alone. -/
theorem stepIgnoresAccumulatorFlagsAndCounters : Obligations.StepIgnoresAccumulatorFlagsAndCounters := by
  intro s s' t ht hx hy hsp hpc hmem hrun
  obtain ⟨hs, u, hu, rfl⟩ := step_next ht
  obtain ⟨a, p, hu', ha, hzn⟩ := exec_withUnread hu s'.a s'.p s'.cycTotal
  have hfetch : fetchInstr s' = fetchInstr s := by simp only [fetchInstr, hmem, hpc]
  rw [← beginExecute_withUnread hx hy hsp hpc hmem hrun, ← hfetch] at hu'
  exact ⟨_, step_of_exec (hrun.trans hs) hu', rfl, rfl, rfl, rfl, rfl, rfl, rfl, rfl, rfl, rfl, ha, hzn⟩

end Sys2Proof.Machine
end

section
/-! ## Memory is its reads, and what writes do to them -/

namespace Sys2Proof.Machine

/-- Below its lowest listed address a memory in canonical form reads as unlisted. -/
theorem Memory.read_below {a : Word} :
    ∀ {m : Memory} {low : Nat}, Memory.wfFrom low m = true → a.toNat < low → m.read a = unlistedByte
  | [], _, _, _ => rfl
  | (k, v) :: rest, low, hm, ha => by
    obtain ⟨hlow, -, -, hrest⟩ := (Memory.wfFrom_cons low k v rest).mp hm
    have hne : k ≠ a.toNat := by omega
    rw [Memory.read, if_neg hne]
    exact Memory.read_below hrest (by omega)

/-- The first listed cell reads as its byte. -/
theorem Memory.read_head {k : Nat} (hk : k < 65536) (v : Byte) (rest : Memory) :
    Memory.read ((k, v) :: rest) (BitVec.ofNat 16 k) = v := by
  have hkey : k = (BitVec.ofNat 16 k).toNat := (Nat.mod_eq_of_lt hk).symm
  rw [Memory.read, if_pos hkey]

/-- The cells after the first, as reads of the whole list. -/
theorem Memory.read_tail {k : Nat} {v : Byte} {rest : Memory} (h : Memory.wfFrom (k + 1) rest = true) (a : Word) :
    rest.read a = if k = a.toNat then unlistedByte else Memory.read ((k, v) :: rest) a := by
  split
  · exact Memory.read_below h (by omega)
  · rw [Memory.read, if_neg ‹_›]

/-- A memory that reads as a list with a first cell begins no higher than that cell: its byte is not what an unlisted
address reads as. -/
theorem Memory.low_le_of_read_eq {m rest : Memory} {low low' k : Nat} {v : Byte} (hm : Memory.wfFrom low m = true)
    (hcell : Memory.wfFrom low' ((k, v) :: rest) = true) (h : ∀ a, m.read a = Memory.read ((k, v) :: rest) a) :
    low ≤ k := by
  obtain ⟨-, hk, hv, -⟩ := (Memory.wfFrom_cons low' k v rest).mp hcell
  have hread : m.read (BitVec.ofNat 16 k) = v := (h _).trans (Memory.read_head hk v rest)
  by_contra hlt
  refine hv (hread.symm.trans (Memory.read_below hm ?_))
  rw [BitVec.toNat_ofNat, Nat.mod_eq_of_lt hk]
  omega

/-- Two memories in canonical form that read alike are one list: each one's first cell bounds the other's, and the rests
read alike again. -/
theorem Memory.eq_of_read_eq : ∀ {m m' : Memory} {low low' : Nat}, Memory.wfFrom low m = true →
    Memory.wfFrom low' m' = true → (∀ a, m.read a = m'.read a) → m = m'
  | [], [], _, _, _, _, _ => rfl
  | [], (k, v) :: rest, _, _, _, hm', h =>
    absurd (Memory.low_le_of_read_eq (low := k + 1) rfl hm' h) (Nat.not_succ_le_self k)
  | (k, v) :: rest, [], _, _, hm, _, h =>
    absurd (Memory.low_le_of_read_eq (low := k + 1) rfl hm fun a => (h a).symm) (Nat.not_succ_le_self k)
  | (k, v) :: rest, (k', v') :: rest', _, _, hm, hm', h => by
    obtain ⟨-, hk, hv, hrest⟩ := (Memory.wfFrom_cons _ k v rest).mp hm
    obtain ⟨-, hk', hv', hrest'⟩ := (Memory.wfFrom_cons _ k' v' rest').mp hm'
    have hle : k ≤ k' :=
      Memory.low_le_of_read_eq ((Memory.wfFrom_cons k k v rest).mpr ⟨le_rfl, hk, hv, hrest⟩) hm' h
    have hge : k' ≤ k :=
      Memory.low_le_of_read_eq ((Memory.wfFrom_cons k' k' v' rest').mpr ⟨le_rfl, hk', hv', hrest'⟩) hm
        fun a => (h a).symm
    obtain rfl := Nat.le_antisymm hle hge
    have hbyte : v = v' := by rw [← Memory.read_head hk v rest, h, Memory.read_head hk v' rest']
    have htail : rest = rest' := Memory.eq_of_read_eq hrest hrest' fun a => by
      rw [Memory.read_tail (v := v) hrest a, h a, ← Memory.read_tail hrest' a]
    rw [hbyte, htail]

/-- Settles O13: the whole list is in canonical form from address 0 up. -/
theorem canonicalMemoryIsItsReads : Obligations.CanonicalMemoryIsItsReads :=
  fun _ _ hm hm' h => Memory.eq_of_read_eq hm hm' h

/-- Settles O12: the memory is the written one; `Memory.read_write` gives its reads, and again after the further write. -/
theorem memWriteReplacesTheStoredByte : Obligations.MemWriteReplacesTheStoredByte := by
  intro q v s
  refine ⟨s.mem.write q v, s.events ++ [.write q], rfl, by simp, fun b hb => ?_, fun b u => ?_⟩
  · rw [Memory.read_write, if_neg hb]
  · simp [eq_comm]

theorem word_ne_sub_one (w : Word) : w ≠ w - 1#16 := by bv_omega

/-- The second write of a word write, one address lower, leaves the first one's byte. -/
theorem Memory.read_write_below (m : Memory) (q : Word) (lo hi : Byte) :
    ((m.write q lo).write (q - 1#16) hi).read q = lo := by
  rw [Memory.read_write, if_neg (word_ne_sub_one q), Memory.read_write, if_pos rfl]

/-- Settles O14: the two cells of `writeWord_eq`, read back as numbers. -/
theorem wordWritePutsTheHighByteBelow : Obligations.WordWritePutsTheHighByteBelow := by
  intro value saddr s
  refine ⟨_, writeWord_eq value saddr s, ?_, ?_, fun q hlow hhigh => ?_⟩
  · rw [Memory.read_write_below, loByte_toNat]
  · rw [Memory.read_write, if_pos rfl, hiByte_toNat]
  · rw [Memory.read_write, if_neg hhigh, Memory.read_write, if_neg hlow]

end Sys2Proof.Machine
end

section
/-! ## The memory events of a step -/

namespace Sys2Proof.Machine

/-- After the opcode's read, the table of R47 lists for a load the reads its mode makes. -/
theorem expectedEvents_of_load {i : Instr} {r : DataReg} (h : loadDest i = some r) (s : State) :
    expectedEvents i s = .read s.pc :: (loadAccess i s.x s.y (s.pc + 1#16) s.mem).reads := by
  cases i using instr_cases with
  | jmpAbs target => cases h
  | jmpInd => cases h
  | jsr target => cases h
  | unhandled i hi => simp [loadDest, hi] at h
  | ldaAbs | ldaAbsX | ldaAbsY | ldxAbs | ldxAbsY | ldyAbs | ldyAbsX =>
    simp [expectedEvents, effectiveAddr, loadAccess, eaAbsIdx]
  | _ => rfl

theorem expectedEvents_of_unhandled {i : Instr} (h : i.entry = .unhandled) (s : State) :
    expectedEvents i s = [.read s.pc] := by
  unfold expectedEvents
  split
  pick_goal -1
  · rfl
  all_goals cases h

/-- Settles O50, kind by kind: the opcode's read, then what the instruction's meaning enters in the history. -/
theorem memoryEventsAreThoseOfTheTable : Obligations.MemoryEventsAreThoseOfTheTable := by
  intro s t ht
  obtain ⟨-, u, hu, rfl⟩ := step_next ht
  generalize fetchInstr s = i at hu ⊢
  cases i using instr_kinds with
  | load i r hi =>
    rw [exec_load hi] at hu
    cases hu
    exact (expectedEvents_of_load hi s).symm
  | jmpAbs target =>
    rw [exec_jmpAbs] at hu
    cases hu
    simp [expectedEvents]
  | jmpInd =>
    rw [exec_jmpInd] at hu
    cases hu
    rfl
  | jsr target =>
    rw [exec_jsr, execJsr_eq] at hu
    cases hu
    simp [expectedEvents]
  | unhandled i hi =>
    rw [exec_unhandled i hi] at hu
    cases hu
    exact (expectedEvents_of_unhandled hi s).symm

end Sys2Proof.Machine
end

section
/-! ## A store is seen by the next fetch -/

namespace Sys2Proof.Machine

/-- What a step of JSR leaves for the next fetch (R112): PC at the target, and the two stack cells written with the
address of JSR's last byte. -/
theorem step_jsr {s t : State} {target : Word} (hi : fetchInstr s = .jsr target) (ht : step s = .next t) :
    t.pc = target ∧ t.mem = (s.mem.write (stackAddr s.sp) (loByte (s.pc + 2#16))).write (stackAddr s.sp - 1#16)
      (hiByte (s.pc + 2#16)) := by
  obtain ⟨-, u, hu, rfl⟩ := step_next ht
  rw [hi, exec_jsr, execJsr_eq] at hu
  cases hu
  simp

/-- Settles O60: the next fetch reads the high byte, the low byte and the cell above them, which JSR left alone. -/
theorem jsrIntoItsStackWordFetchesIt : Obligations.JsrIntoItsStackWordFetchesIt := by
  intro s t hi ht
  obtain ⟨hpc, hmem⟩ := step_jsr hi ht
  have hnext : stackAddr s.sp - 1#16 + 1#16 = stackAddr s.sp := by bv_omega
  have hlast : stackAddr s.sp - 1#16 + 2#16 = stackAddr s.sp + 1#16 := by bv_omega
  have hlow : stackAddr s.sp + 1#16 ≠ stackAddr s.sp := by bv_omega
  have hhigh : stackAddr s.sp + 1#16 ≠ stackAddr s.sp - 1#16 := by bv_omega
  rw [fetchInstr, hpc, hmem, hnext, hlast, Memory.read_write_below]
  simp only [Memory.read_write, if_neg hlow, if_neg hhigh, ↓reduceIte]

end Sys2Proof.Machine
end

section
/-! ## Decoding and encoding: the three formats

The decoder looks an opcode byte up in the table and gives the entry its operand bytes (spec/30_encoding.md R50, R51).
One equation per format says what `decode` answers. -/

namespace Sys2Proof

/-- F1: the opcode byte is the whole instruction (R51). -/
theorem decode_f1 {op : Byte} {i : Instr} (h : shapeOf op = .f1 i) (rest : List Byte) :
    decode (op :: rest) = .ok (i, rest) := by
  simp [decode, h]

/-- F2: one operand byte (R51). -/
theorem decode_f2 {op : Byte} {mk : Byte → Instr} (h : shapeOf op = .f2 mk) (d8 : Byte) (rest : List Byte) :
    decode (op :: d8 :: rest) = .ok (mk d8, rest) := by
  simp [decode, h]

/-- F3: two operand bytes, low byte first (R51, R75). -/
theorem decode_f3 {op : Byte} {mk : Word → Instr} (h : shapeOf op = .f3 mk) (lo hi : Byte) (rest : List Byte) :
    decode (op :: lo :: hi :: rest) = .ok (mk (Machine.effAddr lo hi), rest) := by
  simp [decode, h]

/-- F3 on the two bytes of a word: the operand is that word. -/
theorem decode_f3_split {op : Byte} {mk : Word → Instr} (h : shapeOf op = .f3 mk) (w : Word) (rest : List Byte) :
    decode (op :: Machine.loByte w :: Machine.hiByte w :: rest) = .ok (mk w, rest) := by
  rw [decode_f3 h, Machine.effAddr_split]

/-- The 21 handled instructions have their opcode bytes in the list of R54. -/
theorem opcode_mem_handledBytes {i : Instr} (h : i.entry ≠ .unhandled) : i.opcode ∈ Machine.handledBytes := by
  cases i using Machine.instr_cases with
  | unhandled i hi => exact absurd hi h
  | _ => exact List.mem_of_elem_eq_true rfl

/-- A byte of the list of R54 decodes to a handled instruction, whatever its operand. -/
theorem decodeAt_handled {op : Byte} (h : op ∈ Machine.handledBytes) (b1 b2 : Byte) :
    (decodeAt op b1 b2).entry ≠ .unhandled := by
  intro hentry
  fin_cases h <;> cases hentry

/-- The table has an F1 entry for every unhandled instruction, at its own opcode byte (R56). -/
theorem shapeOf_unhandled {i : Instr} (h : i.entry = .unhandled) : shapeOf i.opcode = .f1 i := by
  cases i
  case ldaImm | ldaZp | ldaZpX | ldaAbs | ldaAbsX | ldaAbsY | ldaIndX | ldaIndY => cases h
  case ldxImm | ldxZp | ldxZpY | ldxAbs | ldxAbsY | ldyImm | ldyZp | ldyZpX | ldyAbs | ldyAbsX => cases h
  case jmpAbs | jmpInd | jsr => cases h
  all_goals rfl

theorem operandBytes_unhandled {i : Instr} (h : i.entry = .unhandled) : i.operandBytes = [] := by
  obtain ⟨-, hargs⟩ := shapeOf_unhandled h ▸ shapeOf_fits i.opcode
  exact hargs

/-- The opcode byte alone tells whether an instruction is handled (R54, R56). -/
theorem entry_eq_unhandled_iff (i : Instr) : i.entry = .unhandled ↔ i.opcode ∉ Machine.handledBytes := by
  constructor
  · intro hi hmem
    have hdecode : decodeAt i.opcode 0x00#8 0x00#8 = i := by rw [decodeAt, shapeOf_unhandled hi]
    exact decodeAt_handled hmem 0x00#8 0x00#8 (hdecode.symm ▸ hi)
  · intro hmem
    by_contra hi
    exact hmem (opcode_mem_handledBytes hi)

/-- Only bytes of the list of R54 ask for operand bytes. -/
theorem operandCount_of_not_mem {op : Byte} (h : op ∉ Machine.handledBytes) : Machine.operandCount op = 0 := by
  simp only [Machine.handledBytes, List.mem_cons, not_or] at h
  simp [Machine.operandCount, h]

/-- `operandCount` counts the operand bytes of every instruction with that opcode byte (R55). -/
theorem operandCount_opcode (i : Instr) : Machine.operandCount i.opcode = i.operandBytes.length := by
  cases i using Machine.instr_cases with
  | unhandled i hi =>
    rw [operandCount_of_not_mem ((entry_eq_unhandled_iff i).mp hi), operandBytes_unhandled hi, List.length_nil]
  | _ => rfl

/-- The format of an opcode byte's entry has as many operand bytes as `operandCount` says (R51, R55). -/
theorem operandCount_eq (op : Byte) : Machine.operandCount op = (shapeOf op).length - 1 := by
  have hfits := shapeOf_fits op
  cases hs : shapeOf op with rw [hs] at hfits
  | f1 i =>
    obtain ⟨hop, hargs⟩ := hfits
    rw [← hop, operandCount_opcode, hargs]
    rfl
  | f2 mk =>
    obtain ⟨hop, hargs⟩ := hfits 0x00#8
    rw [← hop, operandCount_opcode, hargs]
    rfl
  | f3 mk =>
    obtain ⟨hop, hargs⟩ := hfits 0x0000#16
    rw [← hop, operandCount_opcode, hargs]
    rfl

/-- A list that holds the operand bytes decodes to an instruction with that opcode byte and those operand bytes. -/
theorem decode_of_operandCount_le {op : Byte} {rest : List Byte} (h : Machine.operandCount op ≤ rest.length) :
    ∃ i, decode (op :: rest) = .ok (i, rest.drop (Machine.operandCount op)) ∧
      i.opcode = op ∧ i.operandBytes = rest.take (Machine.operandCount op) := by
  have hfits := shapeOf_fits op
  rw [operandCount_eq] at h ⊢
  cases hs : shapeOf op with rw [hs] at h hfits
  | f1 i => exact ⟨i, decode_f1 hs rest, hfits⟩
  | f2 mk =>
    match rest with
    | d8 :: rest => exact ⟨mk d8, decode_f2 hs d8 rest, hfits d8⟩
  | f3 mk =>
    match rest with
    | lo :: hi :: rest =>
      refine ⟨mk (Machine.effAddr lo hi), decode_f3 hs lo hi rest, ?_⟩
      simpa [Shape.length] using hfits (Machine.effAddr lo hi)

/-- A list that ends before the operand bytes is rejected by the name of its opcode byte. -/
theorem decode_of_lt_operandCount {op : Byte} {rest : List Byte} (h : rest.length < Machine.operandCount op) :
    decode (op :: rest) = .error (.missingOperand op) := by
  rw [operandCount_eq] at h
  cases hs : shapeOf op with rw [hs] at h
  | f1 i => cases h
  | f2 mk =>
    match rest with
    | [] => simp [decode, hs]
  | f3 mk =>
    match rest with
    | [] | [_] => simp [decode, hs]

/-- Settles O2, by the format of each instruction: its own entry of the table gives it back from its operand bytes. -/
theorem decodeOfEncodeIsIdentity : Obligations.DecodeOfEncodeIsIdentity := by
  intro i rest _
  cases i using Machine.instr_cases with
  | ldaImm d8 => exact decode_f2 (op := 0xA9#8) rfl d8 rest
  | ldaZp d8 => exact decode_f2 (op := 0xA5#8) rfl d8 rest
  | ldaZpX d8 => exact decode_f2 (op := 0xB5#8) rfl d8 rest
  | ldaAbs addr => exact decode_f3_split (op := 0xAD#8) rfl addr rest
  | ldaAbsX base => exact decode_f3_split (op := 0xBD#8) rfl base rest
  | ldaAbsY base => exact decode_f3_split (op := 0xB9#8) rfl base rest
  | ldaIndX d8 => exact decode_f2 (op := 0xA1#8) rfl d8 rest
  | ldaIndY d8 => exact decode_f2 (op := 0xB1#8) rfl d8 rest
  | ldxImm d8 => exact decode_f2 (op := 0xA2#8) rfl d8 rest
  | ldxZp d8 => exact decode_f2 (op := 0xA6#8) rfl d8 rest
  | ldxZpY d8 => exact decode_f2 (op := 0xB6#8) rfl d8 rest
  | ldxAbs addr => exact decode_f3_split (op := 0xAE#8) rfl addr rest
  | ldxAbsY base => exact decode_f3_split (op := 0xBE#8) rfl base rest
  | ldyImm d8 => exact decode_f2 (op := 0xA0#8) rfl d8 rest
  | ldyZp d8 => exact decode_f2 (op := 0xA4#8) rfl d8 rest
  | ldyZpX d8 => exact decode_f2 (op := 0xB4#8) rfl d8 rest
  | ldyAbs addr => exact decode_f3_split (op := 0xAC#8) rfl addr rest
  | ldyAbsX base => exact decode_f3_split (op := 0xBC#8) rfl base rest
  | jmpAbs target => exact decode_f3_split (op := 0x4C#8) rfl target rest
  | jsr target => exact decode_f3_split (op := 0x20#8) rfl target rest
  | jmpInd => exact decode_f1 (op := 0x6C#8) rfl rest
  | unhandled i hi =>
    rw [encode, operandBytes_unhandled hi]
    exact decode_f1 (shapeOf_unhandled hi) rest

/-- Settles O3: a list that decodes holds the operand bytes, and then the instruction is made of exactly these. -/
theorem encodeOfDecodeIsIdentity : Obligations.EncodeOfDecodeIsIdentity := by
  intro bytes i rest h
  match bytes with
  | [] => cases h
  | op :: tail =>
    rcases lt_or_ge tail.length (Machine.operandCount op) with hshort | hlong
    · rw [decode_of_lt_operandCount hshort] at h
      cases h
    · obtain ⟨j, hdecode, hop, hargs⟩ := decode_of_operandCount_le hlong
      rw [hdecode] at h
      cases h
      rw [encode, hop, hargs, List.cons_append, List.take_append_drop]

/-- Settles O4: the instruction decoded has the opcode byte `op`, and that byte tells whether it is handled. -/
theorem otherBytesAreUnhandled : Obligations.OtherBytesAreUnhandled := by
  refine ⟨rfl, by decide, fun op b1 b2 => ⟨decodeAt_opcode op b1 b2, ?_⟩⟩
  rw [entry_eq_unhandled_iff, decodeAt_opcode]

/-- Settles O5, on both sides of `operandCount op` bytes. -/
theorem lengthIsAFunctionOfTheOpcode : Obligations.LengthIsAFunctionOfTheOpcode := by
  intro op rest
  refine ⟨fun hlong => ?_, decode_of_lt_operandCount⟩
  obtain ⟨i, hdecode, -⟩ := decode_of_operandCount_le hlong
  exact ⟨i, hdecode⟩

/-- Settles O1: each word is one of the three formats at its own table entry. -/
theorem specWordsDecode : Obligations.SpecWordsDecode :=
  ⟨decode_f2 rfl _ _, decode_f2 rfl _ _, decode_f3 rfl _ _ _, decode_f2 rfl _ _, decode_f2 rfl _ _, decode_f2 rfl _ _,
    decode_f3 rfl _ _ _, decode_f3 rfl _ _ _, decode_f1 rfl _, decode_f3 rfl _ _ _, decode_f1 rfl _⟩

end Sys2Proof
end

section
/-! ## Zero-page, pointer and stack addresses, as numbers -/

namespace Sys2Proof.Machine

theorem eaZp_toNat (d8 : Byte) : (eaZp d8).toNat = d8.toNat := zext16_toNat d8

/-- R78, R79: the carry of the 8-bit sum is dropped. -/
theorem eaZpIdx_toNat (d8 idx : Byte) : (eaZpIdx d8 idx).toNat = (d8.toNat + idx.toNat) % 256 := by
  rw [eaZpIdx, zext16_toNat, BitVec.toNat_add]

/-- The high byte of a pointer is at the next 16-bit address: zpPtrHighWrap is false (R83, the spec's D6). -/
theorem ptrHighAddr_eq (ptr : Word) : ptrHighAddr ptr = ptr + 1#16 := rfl

/-- R14: SP is the low byte of an address in the page at 0x0100 (the spec's D3). -/
theorem stackAddr_toNat (sp : Byte) : (stackAddr sp).toNat = 256 + sp.toNat := by
  have hsp := sp.isLt
  have hbase : config.stackBase.toNat = 256 := rfl
  rw [stackAddr, BitVec.toNat_add, zext16_toNat, hbase]
  omega

/-- Settles O17, one address calculation per clause; a pointer in page zero is far from 0xFFFF, so the next address does
not wrap. -/
theorem zeroPageAndStackAddresses : Obligations.ZeroPageAndStackAddresses := by
  intro d8 idx
  have hd8 := d8.isLt
  refine ⟨eaZp_toNat d8, eaZpIdx_toNat d8 idx, ?_, stackAddr_toNat d8⟩
  rw [ptrHighAddr_eq, BitVec.toNat_add, eaZp_toNat, BitVec.toNat_ofNat]
  omega

end Sys2Proof.Machine
end

section
/-! ## SetZN, the fetch primitives and the composed address -/

namespace Sys2Proof.Machine

/-- The negative detector of R74 as a number: bit 7 weighs 128. -/
theorem negativeFlag_eq (v : Byte) : negativeFlag v = decide (128 ≤ v.toNat) :=
  calc negativeFlag v = v.msb := (BitVec.msb_eq_getLsbD_last v).symm
    _ = decide (128 ≤ v.toNat) := BitVec.msb_eq_decide v

/-- Settles O9, from the negative detector as a number and the two detectors never both true. -/
theorem setZNWritesZeroAndNegativeOnly : Obligations.SetZNWritesZeroAndNegativeOnly := by
  intro v s
  refine ⟨?_, not_zero_and_bit7 v⟩
  rw [← negativeFlag_eq]
  rfl

/-- Settles O10: a word fetch is the two bytes of `fetchWord_value` and the state of `passWord_eq`. -/
theorem fetchPrimitivesMovePcAndCharge : Obligations.FetchPrimitivesMovePcAndCharge :=
  fun s => ⟨rfl, Prod.ext (fetchWord_value s) (passWord_eq s)⟩

/-- Settles O11: the events left open are those before the read and the read itself. -/
theorem readByteChargesOneCycle : Obligations.ReadByteChargesOneCycle :=
  fun q s => ⟨s.events ++ [.read q], rfl⟩

/-- Settles O15, from the two laws of the composition. -/
theorem effAddrIsLowPlusHighTimes256 : Obligations.EffAddrIsLowPlusHighTimes256 :=
  ⟨effAddr_toNat, effAddr_split⟩

end Sys2Proof.Machine
end

section
/-! ## Page crossing -/

namespace Sys2Proof.Machine

/-- R81, R82, R84: the indexed address is a sum modulo 65,536 (the spec's D5). -/
theorem eaAbsIdx_toNat (base : Word) (idx : Byte) :
    (eaAbsIdx base idx).toNat = (base.toNat + idx.toNat) % 65536 := by
  rw [eaAbsIdx, BitVec.toNat_add, zext16_toNat]

/-- R85: an index addition changes the high byte exactly when the low byte and the index carry, also past 0xFFFF. -/
theorem crossed_eaAbsIdx (base : Word) (idx : Byte) : crossed base (eaAbsIdx base idx) = carries base idx := by
  have hbase := base.isLt
  have hidx := idx.isLt
  rw [Bool.eq_iff_iff, crossed, carries, bne_iff_ne, decide_eq_true_iff, ← BitVec.toNat_ne_iff_ne, hiByte_toNat,
    hiByte_toNat, eaAbsIdx_toNat]
  omega

/-- Index 0x00 never carries (R85). -/
theorem carries_zero (base : Word) : carries base 0x00#8 = false := by
  rw [carries, decide_eq_false_iff_not, BitVec.toNat_ofNat]
  omega

/-- Settles O16, from the crossing test as a carry. -/
theorem pageCrossingIsTheLowByteCarry : Obligations.PageCrossingIsTheLowByteCarry := by
  intro base idx
  refine ⟨?_, eaAbsIdx_toNat base idx, ?_⟩
  · rw [crossed_eaAbsIdx, carries, decide_eq_true_iff]
  · rintro rfl
    rw [crossed_eaAbsIdx, carries_zero]

/-- The page-cross cycle of a mode, decided by the carry (R81, R82, R84, R85). -/
theorem crossing_cycle (base : Word) (idx : Byte) :
    (if crossed base (eaAbsIdx base idx) then 1 else 0) = if carries base idx then 1 else 0 := by
  rw [crossed_eaAbsIdx]

/-- The cycles of a mode that costs `n` without a crossing. -/
theorem add_crossing_cycle (n : Nat) (base : Word) (idx : Byte) :
    (n + if crossed base (eaAbsIdx base idx) then 1 else 0) = if carries base idx then n + 1 else n := by
  rw [crossing_cycle]
  split <;> rfl

end Sys2Proof.Machine
end

section
/-! ## Cycles, accesses and internal steps -/

namespace Sys2Proof.Machine

/-- The internal steps of a load are the cycles of its mode that make no read (R70, R78, R79, R81 to R84). -/
theorem loadAccess_cycles {i : Instr} {r : DataReg} (h : loadDest i = some r) (s : State) (pc : Word) :
    (loadAccess i s.x s.y pc s.mem).cycles = (loadAccess i s.x s.y pc s.mem).reads.length + internalTicks i s := by
  cases i using instr_cases with
  | jmpAbs target => cases h
  | jmpInd => cases h
  | jsr target => cases h
  | unhandled i hi => simp [loadDest, hi] at h
  | ldaAbsX base | ldyAbsX base => exact congrArg (3 + ·) (crossing_cycle base s.x)
  | ldaAbsY base | ldxAbsY base => exact congrArg (3 + ·) (crossing_cycle base s.y)
  | ldaIndY d8 => exact congrArg (4 + ·) (crossing_cycle (storedAddr s d8) s.y)
  | _ => rfl

theorem indexCrosses_of_unhandled {i : Instr} (h : i.entry = .unhandled) (s : State) : indexCrosses i s = false := by
  unfold indexCrosses
  split
  pick_goal -1
  · rfl
  all_goals cases h

theorem internalTicks_of_unhandled {i : Instr} (h : i.entry = .unhandled) (s : State) : internalTicks i s = 0 := by
  unfold internalTicks
  split
  pick_goal -1
  · rw [indexCrosses_of_unhandled h]
    rfl
  all_goals cases h

/-- Settles O48, kind by kind: the opcode's read and its cycle, then what the instruction's meaning adds to both. -/
theorem cyclesAreAccessesAndInternalSteps : Obligations.CyclesAreAccessesAndInternalSteps := by
  intro s t ht
  obtain ⟨-, u, hu, rfl⟩ := step_next ht
  generalize fetchInstr s = i at hu ⊢
  cases i using instr_kinds with
  | load i r hi =>
    rw [exec_load hi] at hu
    cases hu
    simp [loadAccess_cycles hi, Nat.add_comm, Nat.add_left_comm]
  | jmpAbs target =>
    rw [exec_jmpAbs] at hu
    cases hu
    rfl
  | jmpInd =>
    rw [exec_jmpInd] at hu
    cases hu
    rfl
  | jsr target =>
    rw [exec_jsr, execJsr_eq] at hu
    cases hu
    rfl
  | unhandled i hi =>
    rw [exec_unhandled i hi] at hu
    cases hu
    rw [internalTicks_of_unhandled hi]
    rfl

end Sys2Proof.Machine
end

section
/-! ## Every load completes

`exec_load` gives each load the access of its mode. The addresses, bytes, cycles and reads of that access are those of the
statements by definition, except the page-cross cycle, which the model decides by the high bytes and the statements by the
carry: `add_crossing_cycle`. -/

namespace Sys2Proof.Machine

/-- Settles O18, from the access of the immediate mode (R76). -/
theorem loadImmediateCompletes : Obligations.LoadImmediateCompletes :=
  fun _ s => ⟨exec_load rfl s, exec_load rfl s, exec_load rfl s⟩

/-- Settles O19, from the access of the zero-page mode (R77). -/
theorem loadZeroPageCompletes : Obligations.LoadZeroPageCompletes :=
  fun _ s => ⟨exec_load rfl s, exec_load rfl s, exec_load rfl s⟩

/-- Settles O20, from the access of zero page,X (R78). -/
theorem loadZeroPageXCompletes : Obligations.LoadZeroPageXCompletes :=
  fun _ s => ⟨exec_load rfl s, exec_load rfl s⟩

/-- Settles O21, from the access of zero page,Y (R79). -/
theorem loadZeroPageYCompletes : Obligations.LoadZeroPageYCompletes :=
  fun _ s => exec_load rfl s

/-- Settles O22, from the access of the absolute mode (R80). -/
theorem loadAbsoluteCompletes : Obligations.LoadAbsoluteCompletes :=
  fun _ s => ⟨exec_load rfl s, exec_load rfl s, exec_load rfl s⟩

/-- Settles O23, from the access of absolute,X (R81), its cycles decided by the carry. -/
theorem loadAbsoluteXCompletes : Obligations.LoadAbsoluteXCompletes := by
  intro base s
  rw [← add_crossing_cycle 3 base s.x]
  exact ⟨exec_load rfl s, exec_load rfl s⟩

/-- Settles O24, from the access of absolute,Y (R82), its cycles decided by the carry. -/
theorem loadAbsoluteYCompletes : Obligations.LoadAbsoluteYCompletes := by
  intro base s
  rw [← add_crossing_cycle 3 base s.y]
  exact ⟨exec_load rfl s, exec_load rfl s⟩

/-- Settles O25, from the access of `(zp,X)` (R83); a pointer's high byte is at the next 16-bit address (D6). -/
theorem loadIndexedIndirectCompletes : Obligations.LoadIndexedIndirectCompletes :=
  fun _ s => exec_load rfl s

/-- Settles O26, from the access of `(zp),Y` (R84), its cycles decided by the carry into the pointer's target. -/
theorem loadIndirectIndexedCompletes : Obligations.LoadIndirectIndexedCompletes := by
  intro d8 s base
  rw [← add_crossing_cycle 4 base s.y]
  exact exec_load rfl s

end Sys2Proof.Machine
end

section
/-! ## Every load in memory: one whole execute

The bytes at PC give the instruction, `exec_load` the access of its mode, and the execute transaction charges the opcode
fetch beside it. As in `exec`, only the page-cross cycle has to be turned into a carry. -/

namespace Sys2Proof.Machine

/-- F2 at PC: the instruction of the opcode byte's entry, made of the byte after it (spec/30_encoding.md R51). -/
theorem fetchInstr_f2 {s : State} {op d8 : Byte} {mk : Byte → Instr} (hshape : shapeOf op = .f2 mk)
    (hop : s.mem.read s.pc = op) (hd8 : s.mem.read (s.pc + 1#16) = d8) : fetchInstr s = mk d8 := by
  rw [fetchInstr_eq, hop, hshape, hd8]

/-- F3 at PC: the instruction of the opcode byte's entry, made of the word after it, low byte first (R51, R75). -/
theorem fetchInstr_f3 {s : State} {op lo hi : Byte} {mk : Word → Instr} (hshape : shapeOf op = .f3 mk)
    (hop : s.mem.read s.pc = op) (hlo : s.mem.read (s.pc + 1#16) = lo) (hhi : s.mem.read (s.pc + 2#16) = hi) :
    fetchInstr s = mk (effAddr lo hi) := by
  rw [fetchInstr_eq, hop, hshape, hlo, hhi]

/-- `s` after a whole execute of a load of `r` whose mode made the access `e`: the opcode fetch adds one byte, one cycle
and one read to it (R145, R89). -/
def afterLoadExecute (r : DataReg) (e : LoadAccess) (s : State) : State :=
  loaded r e.value (executed (1#16 + e.len) (1 + e.cycles) (.read s.pc :: e.reads) s)

/-- The execute transaction around a load. -/
theorem endExecute_afterLoad (r : DataReg) (e : LoadAccess) (s : State) :
    endExecute (afterLoad r e (beginExecute s)) = afterLoadExecute r e s := by
  have hpc : s.pc + 1#16 + e.len = s.pc + (1#16 + e.len) := BitVec.add_assoc _ _ _
  rw [afterLoadExecute, executed, ← hpc]
  rfl

/-- A Running core's step of a load. -/
theorem step_load {s : State} {i : Instr} {r : DataReg} (hr : loadDest i = some r) (hrun : s.runState = .running)
    (hi : fetchInstr s = i) :
    step s = .next (afterLoadExecute r (loadAccess i s.x s.y (s.pc + 1#16) s.mem) s) := by
  have hexec := exec_load (hi.symm ▸ hr) (beginExecute s)
  rw [step_of_exec hrun hexec, endExecute_afterLoad, hi]
  rfl

/-- Settles O30, from the access of the immediate mode (R76). -/
theorem ldaImmediateInMemory : Obligations.LdaImmediateInMemory :=
  fun _ d8 hrun hop hd8 => step_load (i := .ldaImm d8) rfl hrun (fetchInstr_f2 rfl hop hd8)

/-- Settles O31, from the access of zero page,X (R78). -/
theorem ldaZeroPageXInMemory : Obligations.LdaZeroPageXInMemory :=
  fun _ d8 hrun hop hd8 => step_load (i := .ldaZpX d8) rfl hrun (fetchInstr_f2 rfl hop hd8)

/-- Settles O32: both bytes ask for the access of the immediate mode (R76). -/
theorem ldxLdyImmediateInMemory : Obligations.LdxLdyImmediateInMemory := by
  intro s op r d8 hmem hrun hop hd8
  fin_cases hmem
  · exact step_load (i := .ldxImm d8) rfl hrun (fetchInstr_f2 rfl hop hd8)
  · exact step_load (i := .ldyImm d8) rfl hrun (fetchInstr_f2 rfl hop hd8)

/-- Settles O33: the three bytes ask for the access of the zero-page mode (R77). -/
theorem zeroPageLoadsInMemory : Obligations.ZeroPageLoadsInMemory := by
  intro s op r d8 hmem hrun hop hd8
  fin_cases hmem
  · exact step_load (i := .ldaZp d8) rfl hrun (fetchInstr_f2 rfl hop hd8)
  · exact step_load (i := .ldxZp d8) rfl hrun (fetchInstr_f2 rfl hop hd8)
  · exact step_load (i := .ldyZp d8) rfl hrun (fetchInstr_f2 rfl hop hd8)

/-- Settles O34: B6 asks for the access of zero page,Y (R79), B4 for that of zero page,X (R78). -/
theorem ldxLdyZeroPageIndexedInMemory : Obligations.LdxLdyZeroPageIndexedInMemory := by
  intro s op r index d8 hmem hrun hop hd8
  fin_cases hmem
  · exact step_load (i := .ldxZpY d8) rfl hrun (fetchInstr_f2 rfl hop hd8)
  · exact step_load (i := .ldyZpX d8) rfl hrun (fetchInstr_f2 rfl hop hd8)

/-- Settles O35: the three bytes ask for the access of the absolute mode (R80). -/
theorem absoluteLoadsInMemory : Obligations.AbsoluteLoadsInMemory := by
  intro s op r lo hi hmem hrun hop hlo hhi ea
  have hpc : s.pc + 1#16 + 1#16 = s.pc + 2#16 := word_add_one_add_one s.pc
  rw [← hpc]
  fin_cases hmem
  · exact step_load (i := .ldaAbs ea) rfl hrun (fetchInstr_f3 rfl hop hlo hhi)
  · exact step_load (i := .ldxAbs ea) rfl hrun (fetchInstr_f3 rfl hop hlo hhi)
  · exact step_load (i := .ldyAbs ea) rfl hrun (fetchInstr_f3 rfl hop hlo hhi)

/-- The carry of an index addition, from the low byte of a composed base (R75, R85). -/
theorem carries_effAddr (lo hi idx : Byte) : carries (effAddr lo hi) idx = decide (255 < lo.toNat + idx.toNat) := by
  rw [carries, ← loByte_toNat, loByte_effAddr]

/-- The cycles of a whole execute whose mode costs `n` without a crossing (R85, R154). -/
theorem execute_crossing_cycle (n : Nat) (lo hi idx : Byte) :
    (1 + (n + if crossed (effAddr lo hi) (eaAbsIdx (effAddr lo hi) idx) then 1 else 0)) =
      if 255 < lo.toNat + idx.toNat then n + 2 else n + 1 := by
  rw [crossing_cycle, carries_effAddr]
  simp only [decide_eq_true_eq]
  split <;> omega

/-- Settles O36: the bytes ask for the access of absolute,X (R81) or absolute,Y (R82); the carry decides its cycles. -/
theorem absoluteIndexedLoadsInMemory : Obligations.AbsoluteIndexedLoadsInMemory := by
  intro s op r index lo hi hmem hrun hop hlo hhi ea
  have hpc : s.pc + 1#16 + 1#16 = s.pc + 2#16 := word_add_one_add_one s.pc
  rw [← execute_crossing_cycle 3 lo hi, ← hpc]
  fin_cases hmem
  · exact step_load (i := .ldaAbsX (effAddr lo hi)) rfl hrun (fetchInstr_f3 rfl hop hlo hhi)
  · exact step_load (i := .ldaAbsY (effAddr lo hi)) rfl hrun (fetchInstr_f3 rfl hop hlo hhi)
  · exact step_load (i := .ldxAbsY (effAddr lo hi)) rfl hrun (fetchInstr_f3 rfl hop hlo hhi)
  · exact step_load (i := .ldyAbsX (effAddr lo hi)) rfl hrun (fetchInstr_f3 rfl hop hlo hhi)

/-- Settles O37, from the access of `(zp,X)` (R83); a pointer's high byte is at the next 16-bit address (D6). -/
theorem ldaIndexedIndirectInMemory : Obligations.LdaIndexedIndirectInMemory :=
  fun _ d8 hrun hop hd8 => step_load (i := .ldaIndX d8) rfl hrun (fetchInstr_f2 rfl hop hd8)

/-- Settles O38, from the access of `(zp),Y` (R84), its cycles decided by the carry into the pointer's target. -/
theorem ldaIndirectIndexedInMemory : Obligations.LdaIndirectIndexedInMemory := by
  intro s d8 hrun hop hd8 lo ea
  rw [← execute_crossing_cycle 4 lo (s.mem.read (zext16 d8 + 1#16)) s.y]
  exact step_load (i := .ldaIndY d8) rfl hrun (fetchInstr_f2 rfl hop hd8)

end Sys2Proof.Machine
end

section
/-! ## The postcondition of every load, and a load run twice -/

namespace Sys2Proof.Machine

/-- The operand byte of an F2 instruction at PC is the byte after its opcode (R51). -/
theorem operandByte_of_fetchInstr {s : State} {i : Instr} {d8 : Byte} (hi : fetchInstr s = i)
    (hd8 : i.operandBytes = [d8]) : d8 = s.mem.read (s.pc + 1#16) := by
  have hbytes := fetchInstr_operandBytes s
  rw [hi, hd8] at hbytes
  exact List.head_eq_of_cons_eq hbytes

/-- The byte a load's mode answers is what memory holds at the load's effective address (R76 to R84); in the immediate
mode because the operand was read there. -/
theorem loadAccess_value {s : State} {i : Instr} {r : DataReg} (hi : fetchInstr s = i) (hr : loadDest i = some r)
    (pc : Word) :
    ∃ ea, effectiveAddr i s = some ea ∧ (loadAccess i s.x s.y pc s.mem).value = s.mem.read ea := by
  cases i using instr_cases with
  | jmpAbs target => cases hr
  | jmpInd => cases hr
  | jsr target => cases hr
  | unhandled i hentry => simp [loadDest, hentry] at hr
  | ldaImm d8 | ldxImm d8 | ldyImm d8 => exact ⟨_, rfl, operandByte_of_fetchInstr hi rfl⟩
  | _ => exact ⟨_, rfl, rfl⟩

/-- Settles O44: the register by the access of the mode, Z and N by the load template, the other flags by the frame. -/
theorem loadPostcondition : Obligations.LoadPostcondition := by
  intro s t r hr ht
  obtain ⟨-, u, hu, rfl⟩ := step_next ht
  obtain ⟨ea, hea, hvalue⟩ := loadAccess_value rfl hr (s.pc + 1#16)
  obtain ⟨hv, hb, hd, hi, hc⟩ := (exec_frame hu).flagsNeverWritten
  rw [exec_load hr] at hu
  cases hu
  exact ⟨ea, hea, by simpa using hvalue, by simp, by simp, hv, hd, hi, hc, hb⟩

/-- No load indexes by the register it writes (spec/10_state.md R10): after it the same mode makes the same access. -/
theorem loadAccess_afterLoad {i : Instr} {r : DataReg} (hr : loadDest i = some r) (e : LoadAccess) (s : State)
    (pc : Word) (m : Memory) :
    loadAccess i (afterLoad r e s).x (afterLoad r e s).y pc m = loadAccess i s.x s.y pc m := by
  cases i using instr_cases with
  | jmpAbs target => cases hr
  | jmpInd => cases hr
  | jsr target => cases hr
  | unhandled i hentry => simp [loadDest, hentry] at hr
  | _ => cases hr; rfl

/-- Settles O45: the second access is the first one again, so the same byte sets Z and N. -/
theorem loadTwiceGivesTheSameFlags : Obligations.LoadTwiceGivesTheSameFlags := by
  intro i s t u hload ht hu
  obtain ⟨r, hr⟩ := Option.isSome_iff_exists.mp hload
  rw [exec_load hr] at ht
  cases ht
  have hsame := loadAccess_afterLoad hr (loadAccess i s.x s.y s.pc s.mem) s s.pc s.mem
  rw [exec_load hr] at hu
  cases hu
  rw [afterLoad_p, afterLoad_mem, hsame]
  rfl

end Sys2Proof.Machine
end

section
/-! ## Jumps and calls complete

`exec_jmpAbs` and `exec_jmpInd` say the effect of the two jumps, `execJsr_eq` that of JSR in the model's own names for the
stack address and the step of SP. -/

namespace Sys2Proof.Machine

/-- Settles O27, from the effects of JMP absolute (R110) and of the placeholder (R111). -/
theorem jumpsComplete : Obligations.JumpsComplete :=
  fun target s => ⟨exec_jmpAbs target s, exec_jmpInd s⟩

/-- Settles O28: the stack page is at 0x0100 (D3) and SP moves down by one (D2), as the parameters have them. -/
theorem jsrCompletes : Obligations.JsrCompletes :=
  fun target s => execJsr_eq target s

end Sys2Proof.Machine
end

section
/-! ## Jumps and calls in memory: one whole execute

The bytes at PC give the instruction, its completion the effect after the opcode fetch, and the execute transaction adds
the fetch: one byte, one cycle and one read. JSR's own last byte is then the third from PC. -/

namespace Sys2Proof.Machine

/-- F1 at PC: the instruction of the opcode byte's entry, whatever follows it (spec/30_encoding.md R51). -/
theorem fetchInstr_f1 {s : State} {op : Byte} {i : Instr} (hshape : shapeOf op = .f1 i) (hop : s.mem.read s.pc = op) :
    fetchInstr s = i := by
  rw [fetchInstr_eq, hop, hshape]

/-- A Running core's step of the instruction at PC, given what that instruction answers after the opcode fetch. -/
theorem step_of_fetchInstr {s u : State} {i : Instr} (hrun : s.runState = .running) (hi : fetchInstr s = i)
    (hu : exec i (beginExecute s) = .next u) : step s = .next (endExecute u) := by
  subst hi
  exact step_of_exec hrun hu

/-- A Running core's step of JMP absolute (R110). -/
theorem step_of_jmpAbs {s : State} {target : Word} (hrun : s.runState = .running)
    (hi : fetchInstr s = .jmpAbs target) :
    step s = .next
      { executed 3#16 3 [.read s.pc, .read (s.pc + 1#16), .read (s.pc + 2#16)] s with pc := target } := by
  rw [step_of_fetchInstr hrun hi (jumpsComplete target _).1, ← word_add_one_add_one s.pc]
  rfl

/-- A Running core's step of the placeholder: the opcode fetch alone (R111). -/
theorem step_of_jmpInd {s : State} (hrun : s.runState = .running) (hi : fetchInstr s = .jmpInd) :
    step s = .next (executed 1#16 1 [.read s.pc] s) :=
  step_of_fetchInstr hrun hi (exec_jmpInd _)

/-- A Running core's step of JSR (R112). -/
theorem step_of_jsr {s : State} {target : Word} (hrun : s.runState = .running) (hi : fetchInstr s = .jsr target) :
    let saddr := 0x0100#16 + zext16 s.sp
    step s = .next
      { executed 3#16 6 [.read s.pc, .read (s.pc + 1#16), .read (s.pc + 2#16),
                         .write saddr, .write (saddr - 1#16)] s with
        pc := target
        sp := s.sp - 1#8
        mem := (s.mem.write saddr (loByte (s.pc + 2#16))).write (saddr - 1#16) (hiByte (s.pc + 2#16)) } := by
  rw [step_of_fetchInstr hrun hi (jsrCompletes target _), ← word_add_one_add_one s.pc]
  rfl

/-- Settles O39: the byte 4C is JMP absolute with the word after it, 6C the placeholder without an operand. -/
theorem jumpsInMemory : Obligations.JumpsInMemory :=
  fun _ _ _ hrun hlo hhi =>
    ⟨fun hop => step_of_jmpAbs hrun (fetchInstr_f3 rfl hop hlo hhi),
      fun hop => step_of_jmpInd hrun (fetchInstr_f1 rfl hop)⟩

/-- Settles O40: the byte 20 is JSR with the word after it, read before the stack cells are written. -/
theorem jsrInMemory : Obligations.JsrInMemory :=
  fun _ _ _ hrun hop hlo hhi => step_of_jsr hrun (fetchInstr_f3 rfl hop hlo hhi)

end Sys2Proof.Machine
end

section
/-! ## Unhandled opcodes: the diagnostic report and nothing else

The 235 bytes outside the list of R54 share one meaning, `exec_unhandled`. The execute transaction adds the opcode
fetch, and over memory of zeros a run is that one step again and again. -/

namespace Sys2Proof.Machine

/-- Settles O29: an opcode byte outside the list of R54 belongs to an unhandled entry of the table. -/
theorem unhandledCompletes : Obligations.UnhandledCompletes :=
  fun i s hop => exec_unhandled i ((entry_eq_unhandled_iff i).mpr hop) s

/-- Settles O41: the instruction at PC has the opcode byte at PC, so it is unhandled and reports that byte. -/
theorem unhandledByteInMemory : Obligations.UnhandledByteInMemory := by
  intro s op hrun hread hop
  have hopcode : (fetchInstr s).opcode = op := (fetchInstr_opcode s).trans hread
  have hexec : exec (fetchInstr s) (beginExecute s) = .next { beginExecute s with diag := some op } := by
    rw [unhandledCompletes _ _ (hopcode.symm ▸ hop), hopcode]
  exact step_of_exec hrun hexec

/-- `s` after `k + 1` executes of the unhandled byte 00 (R120): the last one read the byte at `s.pc + k`. -/
def afterZeroBytes (k : Nat) (s : State) : State :=
  { executed (BitVec.ofNat 16 (k + 1)) 1 [.read (s.pc + BitVec.ofNat 16 k)] s with
    cycTotal := s.cycTotal + (k + 1)
    diag := some 0x00#8 }

/-- A Running core with the byte 00 at PC reports it. -/
theorem step_zeroByte {s : State} (hrun : s.runState = .running) (hread : s.mem.read s.pc = 0x00#8) :
    step s = .next (afterZeroBytes 0 s) := by
  rw [unhandledByteInMemory s 0x00#8 hrun hread (by decide), afterZeroBytes, BitVec.add_zero]
  rfl

/-- One more report first: PC and CYC start one further. -/
theorem afterZeroBytes_succ (k : Nat) (s : State) :
    afterZeroBytes k (afterZeroBytes 0 s) = afterZeroBytes (k + 1) s := by
  have hpc (n : Nat) : s.pc + 1#16 + BitVec.ofNat 16 n = s.pc + BitVec.ofNat 16 (n + 1) := by
    rw [BitVec.add_assoc, ← BitVec.ofNat_add, Nat.add_comm 1 n]
  have hcyc : s.cycTotal + 1 + (k + 1) = s.cycTotal + (k + 1 + 1) := by omega
  simp [afterZeroBytes, executed, hpc, hcyc]

/-- Memory that reads 00 everywhere: `k + 1` steps are `k + 1` reports. -/
theorem run_zeroBytes (k : Nat) {s : State} (hrun : s.runState = .running) (hzero : ∀ q, s.mem.read q = 0x00#8) :
    core.run (k + 1) s = .next (afterZeroBytes k s) := by
  induction k generalizing s with
  | zero => exact run_succ (M := core) (step_zeroByte hrun (hzero s.pc))
  | succ k ih =>
    calc core.run (k + 2) s
      _ = core.run (k + 1) (afterZeroBytes 0 s) := run_succ (M := core) (step_zeroByte hrun (hzero s.pc))
      _ = .next (afterZeroBytes k (afterZeroBytes 0 s)) := ih hrun hzero
      _ = .next (afterZeroBytes (k + 1) s) := by rw [afterZeroBytes_succ]

/-- Settles O58: no step leaves `s` as it is, and every further step is one more report of the byte 00. -/
theorem unprogrammedMemoryCountsUp : Obligations.UnprogrammedMemoryCountsUp := by
  intro k s hrun hzero
  cases k with
  | zero => exact ⟨s, rfl, (BitVec.add_zero _).symm, rfl, rfl, rfl, rfl, rfl, rfl, rfl, fun h => absurd h (by decide)⟩
  | succ k =>
    exact ⟨afterZeroBytes k s, run_zeroBytes k hrun hzero, rfl, rfl, rfl, rfl, rfl, rfl, rfl, rfl, fun _ => ⟨rfl, rfl⟩⟩

end Sys2Proof.Machine
end

section
/-! ## Before the first reset, and the state a reset leaves -/

namespace Sys2Proof.Machine

/-- An execute before the first reset is refused (R142, the spec's D13). -/
theorem step_of_reset {s : State} (h : s.runState = .reset) : step s = .refused .executeBeforeReset := by
  simp [step, h]

/-- A host write before the first reset is refused (R156; log 4). -/
theorem transact_write_of_reset {s : State} (h : s.runState = .reset) (w : HostWrite) :
    transact (.write w) s = .refused .hostAccessBeforeReset := by
  simp [transact, h]

/-- A host read before the first reset is refused (R156; log 4). -/
theorem hostRead_of_reset {s : State} (h : s.runState = .reset) (q : HostQuery) :
    hostRead q s = .refused .hostAccessBeforeReset := by
  simp [hostRead, h]

/-- A reset transaction answers the reset state, from either `run_state` (R140). -/
theorem transact_reset (s : State) : transact .reset s = .next State.reset :=
  congrArg Host.Outcome.next (resetMachine_eq s)

/-- Settles O7, one transaction per clause. -/
theorem onlyResetBeforeTheFirstReset : Obligations.OnlyResetBeforeTheFirstReset :=
  fun s h => ⟨step_of_reset h, transact_write_of_reset h, hostRead_of_reset h, transact_reset s⟩

/-- Settles O8: the reset state has the values of R23, its memory those of `Memory.read_init`. -/
theorem resetLeavesTheResetValues : Obligations.ResetLeavesTheResetValues :=
  fun s => ⟨State.reset, transact_reset s, rfl, rfl, rfl, rfl, rfl, rfl, Memory.read_init, rfl, rfl, rfl⟩

/-- Settles O53: memory initialise is canonical, all flags are clear and nothing is counted yet. -/
theorem resetHasTheInvariant : Obligations.ResetHasTheInvariant :=
  ⟨Memory.wf_init, rfl, by decide, Nat.zero_le 6, le_rfl, le_rfl⟩

end Sys2Proof.Machine
end

section
/-! ## The execute transaction: what it runs, what it costs, and that it completes -/

namespace Sys2Proof.Machine

/-- In a Running core a step is the execute transaction around the instruction fetched (R145). -/
theorem step_of_running {s : State} (h : s.runState = .running) :
    step s = finishExecute (exec (fetchInstr s) (beginExecute s)) := by
  simp [step, h]

/-- Settles O6: the two decoders agree (`fetchInstr_of_decode`), and the rest is the transaction's own frame. -/
theorem stepRunsTheDecodedInstruction : Obligations.StepRunsTheDecodedInstruction := by
  intro s i rest hrun hdecode
  have hstep := step_of_running hrun
  rw [fetchInstr_of_decode hdecode] at hstep
  exact hstep

/-- Every instruction answers a next state from every state (R121, R144). -/
theorem exec_completes (i : Instr) (s : State) : ∃ t, exec i s = .next t := by
  cases i using instr_kinds with
  | load i r hi => exact ⟨_, exec_load hi s⟩
  | jmpAbs target => exact ⟨_, exec_jmpAbs target s⟩
  | jmpInd => exact ⟨_, exec_jmpInd s⟩
  | jsr target => exact ⟨_, execJsr_eq target s⟩
  | unhandled i hi => exact ⟨_, exec_unhandled i hi s⟩

/-- The cycles of a whole execute whose mode costs `n` without a crossing, in the words of the table of R154. -/
theorem table_cycles_crossing (n : Nat) (base : Word) (idx : Byte) :
    (if carries base idx then n + 2 else n + 1) = 1 + (n + if crossed base (eaAbsIdx base idx) then 1 else 0) := by
  rw [crossing_cycle]
  split <;> omega

/-- The opcode fetch and the mode of a load cost what the table of R154 says for its opcode byte. -/
theorem cyclesOf_of_load {i : Instr} {r : DataReg} (h : loadDest i = some r) (s : State) (pc : Word) :
    cyclesOf i.opcode (indexCrosses i s) = 1 + (loadAccess i s.x s.y pc s.mem).cycles := by
  cases i using instr_cases with
  | jmpAbs target => cases h
  | jmpInd => cases h
  | jsr target => cases h
  | unhandled i hi => simp [loadDest, hi] at h
  | ldaAbsX base | ldyAbsX base => exact table_cycles_crossing 3 base s.x
  | ldaAbsY base | ldxAbsY base => exact table_cycles_crossing 3 base s.y
  | ldaIndY d8 => exact table_cycles_crossing 4 (storedAddr s d8) s.y
  | _ => rfl

/-- A byte outside the list of R54 costs its fetch alone (the spec's D8). -/
theorem cyclesOf_of_not_mem {op : Byte} (h : op ∉ handledBytes) (crossing : Bool) : cyclesOf op crossing = 1 := by
  simp only [handledBytes, List.mem_cons, not_or] at h
  simp [cyclesOf, h]

/-- No row of the table of R154 is below one cycle or above six. -/
theorem cyclesOf_bounds (op : Byte) (crossing : Bool) : 1 ≤ cyclesOf op crossing ∧ cyclesOf op crossing ≤ 6 := by
  unfold cyclesOf
  repeat' split
  all_goals omega

/-- Settles O46, kind by kind: the opcode's cycle, then what the instruction's meaning charges. -/
theorem cyclesFollowTheTable : Obligations.CyclesFollowTheTable := by
  intro s t ht
  obtain ⟨-, u, hu, rfl⟩ := step_next ht
  rw [← fetchInstr_opcode s]
  generalize fetchInstr s = i at hu ⊢
  cases i using instr_kinds with
  | load i r hi =>
    rw [exec_load hi] at hu
    cases hu
    exact (cyclesOf_of_load hi s _).symm
  | jmpAbs target =>
    rw [exec_jmpAbs] at hu
    cases hu
    rfl
  | jmpInd =>
    rw [exec_jmpInd] at hu
    cases hu
    rfl
  | jsr target =>
    rw [exec_jsr, execJsr_eq] at hu
    cases hu
    rfl
  | unhandled i hi =>
    rw [exec_unhandled i hi] at hu
    cases hu
    exact (cyclesOf_of_not_mem ((entry_eq_unhandled_iff i).mp hi) _).symm

/-- An instruction leaves `diag` alone when its byte is in the list of R54, and reports that byte otherwise (R120). -/
theorem exec_diag {i : Instr} {s t : State} (h : exec i s = .next t) :
    t.diag = if i.opcode ∈ handledBytes then s.diag else some i.opcode := by
  split
  next hmem => exact (exec_frame h).diag fun hi => (entry_eq_unhandled_iff i).mp hi hmem
  next hmem =>
    rw [unhandledCompletes i s hmem] at h
    cases h
    rfl

/-- What an execute reports (R120). -/
theorem step_diag {s t : State} (h : step s = .next t) :
    t.diag = if s.mem.read s.pc ∈ handledBytes then none else some (s.mem.read s.pc) := by
  obtain ⟨-, u, hu, rfl⟩ := step_next h
  simpa using exec_diag hu

/-- Settles O47: every instruction completes, the table bounds its cycles, the frame keeps `run_state` and CYC until the
transaction adds the cycles. -/
theorem executeAlwaysCompletes : Obligations.ExecuteAlwaysCompletes := by
  intro s hrun
  obtain ⟨u, hu⟩ := exec_completes (fetchInstr s) (beginExecute s)
  have ht := step_of_exec hrun hu
  have hframe := exec_frame hu
  obtain ⟨hlow, hhigh⟩ := cyclesOf_bounds (s.mem.read s.pc) (indexCrosses (fetchInstr s) s)
  rw [← cyclesFollowTheTable s _ ht] at hlow hhigh
  have hdiag := step_diag ht
  refine ⟨endExecute u, ht, hlow, hhigh, congrArg (· + u.cyc) hframe.cycTotal, hframe.runState.trans hrun, hdiag, ?_⟩
  rw [Clean, hdiag]
  simp

end Sys2Proof.Machine
end

section
/-! ## The spec's execute procedure

`Pseudocode.dispatch` fetches its operand bytes where the instruction's meaning is given them by the decoder. One lemma per
addressing mode says that the two answer the same; no instruction writes before its last operand fetch (log 3). -/

namespace Sys2Proof.Machine.Pseudocode

/-- The operand word at PC (R72). -/
def operandWord (s : State) : Word := effAddr (s.mem.read s.pc) (s.mem.read (s.pc + 1#16))

/-- The two page-cross ticks are one (R85). -/
theorem crossTick_eq (base ea : Word) (s : State) : crossTick base ea s = tickIfCrossed base ea s := by
  simp only [crossTick, tickIfCrossed, crossed, bne_iff_ne, ne_eq, ite_not, eq_comm (a := hiByte base)]

theorem operandIMM_eq (s : State) : operandIMM s = operandImm (s.mem.read s.pc) s := rfl

theorem operandZP_eq (s : State) : operandZP s = operandZp (s.mem.read s.pc) s := rfl

theorem operandZPI_x_eq (s : State) : operandZPI .x s = operandZpX (s.mem.read s.pc) s := rfl

theorem operandZPI_y_eq (s : State) : operandZPI .y s = operandZpY (s.mem.read s.pc) s := rfl

theorem operandABS_eq (s : State) : operandABS s = operandAbs (operandWord s) s := rfl

theorem operandABSI_x_eq (s : State) : operandABSI .x s = operandAbsX (operandWord s) s := by
  simp only [operandABSI, crossTick_eq]
  rfl

theorem operandABSI_y_eq (s : State) : operandABSI .y s = operandAbsY (operandWord s) s := by
  simp only [operandABSI, crossTick_eq]
  rfl

theorem operandINDX_eq (s : State) : operandINDX s = operandIndX (s.mem.read s.pc) s := rfl

theorem operandINDY_eq (s : State) : operandINDY s = operandIndY (s.mem.read s.pc) s := by
  simp [operandINDY, operandIndY, readPtr, eaZp, eaAbsIdx, ptrHighAddr_eq, crossTick_eq]

/-- The two load templates are one (R89), so a load agrees where its mode does. -/
theorem next_load_eq {r : DataReg} {o o' : Byte × State} (h : o' = o) :
    Host.Outcome.next (φ := Fault) (ρ := Refusal) (load r o) = .next (loadFrom r o') := by
  rw [h]
  rfl

/-- A byte outside the list of R54 is reported (R120). -/
theorem dispatch_of_not_mem {op : Byte} (h : op ∉ handledBytes) (s : State) : dispatch op s = raiseUnhandled op s := by
  simp only [handledBytes, List.mem_cons, not_or] at h
  simp [dispatch, h, raiseUnhandled]

/-- After the opcode fetch the instruction decoded from the bytes at PC does what the procedure does with the opcode
byte: the 21 bytes in the order of `handledBytes`, the others at once. -/
theorem exec_decodeAt (op : Byte) (s : State) :
    exec (decodeAt op (s.mem.read s.pc) (s.mem.read (s.pc + 1#16))) s = .next (dispatch op s) := by
  by_cases h : op ∈ handledBytes
  · fin_cases h
    · exact next_load_eq (r := .a) (operandIMM_eq s)
    · exact next_load_eq (r := .a) (operandZP_eq s)
    · exact next_load_eq (r := .a) (operandZPI_x_eq s)
    · exact next_load_eq (r := .a) (operandABS_eq s)
    · exact next_load_eq (r := .a) (operandABSI_x_eq s)
    · exact next_load_eq (r := .a) (operandABSI_y_eq s)
    · exact next_load_eq (r := .a) (operandINDX_eq s)
    · exact next_load_eq (r := .a) (operandINDY_eq s)
    · exact next_load_eq (r := .x) (operandIMM_eq s)
    · exact next_load_eq (r := .x) (operandZP_eq s)
    · exact next_load_eq (r := .x) (operandZPI_y_eq s)
    · exact next_load_eq (r := .x) (operandABS_eq s)
    · exact next_load_eq (r := .x) (operandABSI_y_eq s)
    · exact next_load_eq (r := .y) (operandIMM_eq s)
    · exact next_load_eq (r := .y) (operandZP_eq s)
    · exact next_load_eq (r := .y) (operandZPI_x_eq s)
    · exact next_load_eq (r := .y) (operandABS_eq s)
    · exact next_load_eq (r := .y) (operandABSI_x_eq s)
    · exact (rfl : execJmpAbs (operandWord s) s = .next (jump s))
    · exact exec_jmpInd s
    · exact (rfl : execJsr (operandWord s) s = .next (call s))
  · rw [dispatch_of_not_mem h, unhandledCompletes _ _ (by rwa [decodeAt_opcode]), decodeAt_opcode]
    rfl

end Sys2Proof.Machine.Pseudocode

namespace Sys2Proof.Machine

/-- Settles O54: both readings fetch the opcode first, and `Pseudocode.exec_decodeAt` compares what they do then. -/
theorem stepIsTheSpecsExecuteProcedure : Obligations.StepIsTheSpecsExecuteProcedure := by
  intro s hrun
  have hexec := Pseudocode.exec_decodeAt (s.mem.read s.pc) (beginExecute s)
  rw [beginExecute_mem, beginExecute_pc, word_add_one_add_one] at hexec
  exact step_of_exec hrun hexec

end Sys2Proof.Machine
end

section
/-! ## The host's side: what it reads, and what its writes change -/

namespace Sys2Proof.Machine

/-- The value a query names in `s` (R146, R147). -/
def valueOf (q : HostQuery) (s : State) : HostValue :=
  match q with
  | .mem addr => .byte (s.mem.read addr)
  | .pc => .word s.pc
  | .sp => .byte s.sp
  | .reg r => .byte (getReg r s)
  | .flag f => .bit (getFlag f s.p)
  | .cycTotal => .count s.cycTotal

/-- A Running core answers every host read with the value named. -/
theorem hostRead_of_running {s : State} (h : s.runState = .running) (q : HostQuery) :
    hostRead q s = .next (valueOf q s) := by
  cases q <;> simp [hostRead, valueOf, h]

/-- A Running core takes every host write. -/
theorem transact_write_of_running {s : State} (h : s.runState = .running) (w : HostWrite) :
    transact (.write w) s = .next (hostWrite w s) := by
  simp [transact, h]

@[simp] theorem hostWrite_runState (w : HostWrite) (s : State) : (hostWrite w s).runState = s.runState := by
  cases w with
  | reg r v => exact setReg_runState r v s
  | _ => rfl

@[simp] theorem hostWrite_cycTotal (w : HostWrite) (s : State) : (hostWrite w s).cycTotal = s.cycTotal := by
  cases w with
  | reg r v => exact setReg_cycTotal r v s
  | _ => rfl

/-- A host read after a host write. -/
theorem hostRead_hostWrite {s : State} (h : s.runState = .running) (q : HostQuery) (w : HostWrite) :
    hostRead q (hostWrite w s) = .next (valueOf q (hostWrite w s)) :=
  hostRead_of_running ((hostWrite_runState w s).trans h) q

/-- Writing a flag and reading one back (spec/10_state.md R15). -/
@[simp] theorem getFlag_setFlag (f g : FlagName) (b : Bool) (p : Flags) :
    getFlag g (setFlag f b p) = if g = f then b else getFlag g p := by
  cases f <;> cases g <;> rfl

/-- The read of a cell after a host write to one. -/
theorem hostRead_mem_hostWrite {s : State} (h : s.runState = .running) (addr q : Word) (v : Byte) :
    hostRead (.mem q) (hostWrite (.mem addr v) s) = if q = addr then .next (.byte v) else hostRead (.mem q) s := by
  rw [hostRead_hostWrite h, hostRead_of_running h]
  simp only [valueOf, hostWrite, Memory.read_write]
  split <;> rfl

/-- The read of a register after a host write to one. -/
theorem hostRead_reg_hostWrite {s : State} (h : s.runState = .running) (r q : DataReg) (v : Byte) :
    hostRead (.reg q) (hostWrite (.reg r v) s) = if q = r then .next (.byte v) else hostRead (.reg q) s := by
  rw [hostRead_hostWrite h, hostRead_of_running h]
  simp only [valueOf, hostWrite, getReg_setReg]
  split <;> rfl

/-- The read of a flag after a host write to one. -/
theorem hostRead_flag_hostWrite {s : State} (h : s.runState = .running) (f g : FlagName) (b : Bool) :
    hostRead (.flag g) (hostWrite (.flag f b) s) = if g = f then .next (.bit b) else hostRead (.flag g) s := by
  rw [hostRead_hostWrite h, hostRead_of_running h]
  simp only [valueOf, hostWrite, getFlag_setFlag]
  split <;> rfl

/-- CYC reads as before after every host write. -/
theorem hostRead_cycTotal_hostWrite {s : State} (h : s.runState = .running) (w : HostWrite) :
    hostRead .cycTotal (hostWrite w s) = hostRead .cycTotal s := by
  rw [hostRead_hostWrite h, hostRead_of_running h]
  simp only [valueOf, hostWrite_cycTotal]

/-- Settles O55: `hostRead_of_running` gives every read, and what is read after a write is the memory law, the register
law or the flag law. -/
theorem hostWriteChangesOnlyWhatItNames : Obligations.HostWriteChangesOnlyWhatItNames := by
  intro s h
  have read := hostRead_of_running h
  refine ⟨transact_write_of_running h,
    ⟨fun q => read (.mem q), read .pc, read .sp, read (.reg .a), read (.reg .x), read (.reg .y), read (.flag .n),
      read (.flag .v), read (.flag .b), read (.flag .d), read (.flag .i), read (.flag .z), read (.flag .c),
      read .cycTotal⟩,
    fun addr v => ⟨_, rfl, fun q => hostRead_mem_hostWrite h addr q v⟩,
    fun v => ⟨rfl, hostRead_hostWrite h .pc (.pc v)⟩, fun v => ⟨rfl, hostRead_hostWrite h .sp (.sp v)⟩,
    fun v => ⟨rfl, rfl, rfl⟩, fun r v q => hostRead_reg_hostWrite h r q v,
    fun f b => ⟨_, rfl, fun g => hostRead_flag_hostWrite h f g b⟩, hostRead_cycTotal_hostWrite h⟩

end Sys2Proof.Machine
end

section
/-! ## Every transaction keeps memory canonical -/

namespace Sys2Proof.Machine

/-- Every instruction keeps the canonical form: only JSR writes, with `MemWrite` (R33, R112). -/
theorem exec_mem_wf {i : Instr} {s t : State} (hs : s.mem.wf = true) (h : exec i s = .next t) : t.mem.wf = true := by
  cases i using instr_kinds with
  | load i r hi =>
    rw [exec_load hi] at h
    cases h
    exact hs
  | jmpAbs target =>
    rw [exec_jmpAbs] at h
    cases h
    exact hs
  | jmpInd =>
    rw [exec_jmpInd] at h
    cases h
    exact hs
  | jsr target =>
    rw [exec_jsr, execJsr_eq] at h
    cases h
    exact Memory.wf_write _ _ _ (Memory.wf_write _ _ _ hs)
  | unhandled i hi =>
    rw [exec_unhandled i hi] at h
    cases h
    exact hs

theorem step_mem_wf {s t : State} (hs : s.mem.wf = true) (h : step s = .next t) : t.mem.wf = true := by
  obtain ⟨-, u, hu, rfl⟩ := step_next h
  rw [endExecute_mem]
  exact exec_mem_wf (s := beginExecute s) hs hu

theorem hostWrite_mem_wf (w : HostWrite) {s : State} (hs : s.mem.wf = true) : (hostWrite w s).mem.wf = true := by
  cases w with
  | mem addr v => exact Memory.wf_write _ _ _ hs
  | reg r v => exact (setReg_mem r v s).symm ▸ hs
  | _ => exact hs

theorem transact_mem_wf {tr : Transaction} {s t : State} (hs : s.mem.wf = true) (h : transact tr s = .next t) :
    t.mem.wf = true := by
  cases tr with
  | reset =>
    cases h
    exact Memory.wf_init
  | execute => exact step_mem_wf hs h
  | write w =>
    cases hrun : s.runState with
    | reset => simp [transact, hrun] at h
    | running =>
      rw [transact_write_of_running hrun] at h
      cases h
      exact hostWrite_mem_wf w hs

/-- What the host finds at launch (R157). -/
def Launched (s : State) : Prop := s.mem.wf = true ∧ s.runState = .running ∧ s.cycTotal = 0

theorem launched_reset : Launched State.reset := ⟨Memory.wf_init, rfl, rfl⟩

theorem launched_hostWrite (w : HostWrite) {s : State} (h : Launched s) : Launched (hostWrite w s) := by
  obtain ⟨hmem, hrun, hcyc⟩ := h
  exact ⟨hostWrite_mem_wf w hmem, (hostWrite_runState w s).trans hrun, (hostWrite_cycTotal w s).trans hcyc⟩

/-- Settles O56, transaction by transaction; a launch state comes from reset by host writes, one after the other. -/
theorem transactionsKeepMemoryCanonical : Obligations.TransactionsKeepMemoryCanonical :=
  ⟨fun _ _ _ hs h => transact_mem_wf hs h,
    fun ws => List.foldlRecOn (motive := Launched) ws _ launched_reset fun _ hs w _ => launched_hostWrite w hs⟩

end Sys2Proof.Machine
end

section
/-! ## The budgeted run -/

namespace Sys2Proof.Machine

/-- The loop executes once more while the target is not reached (R149). -/
theorem runFrom_of_step {target spent : Nat} {s t : State} (fuel : Nat) (hlt : spent < target)
    (ht : step s = .next t) : runFrom (fuel + 1) target spent s = runFrom fuel target (spent + t.cyc) t := by
  rw [runFrom, if_pos hlt, ht]

/-- The loop stops once the target is reached (R149). -/
theorem runFrom_of_reached {target spent : Nat} (fuel : Nat) (hge : target ≤ spent) (s : State) :
    runFrom (fuel + 1) target spent s = .next (spent, s) := by
  rw [runFrom, if_neg (Nat.not_lt.mpr hge)]

/-- With fuel for the cycles still to spend the loop reaches its target: every execute spends at least one cycle, and the
last one, begun below the target, at most six. -/
theorem runFrom_reaches (fuel : Nat) {target spent : Nat} {s : State} (hrun : s.runState = .running)
    (hfuel : target ≤ spent + fuel) (hspent : spent ≤ target + 5) :
    ∃ total t, runFrom fuel target spent s = .next (total, t) ∧ target ≤ total ∧ total ≤ target + 5 ∧
      t.cycTotal + spent = s.cycTotal + total ∧ t.runState = .running := by
  induction fuel generalizing spent s with
  | zero => exact ⟨spent, s, rfl, hfuel, hspent, rfl, hrun⟩
  | succ fuel ih =>
    rcases lt_or_ge spent target with hlt | hge
    · obtain ⟨u, hu, hlow, hhigh, hcyc, hstill, -, -⟩ := executeAlwaysCompletes s hrun
      obtain ⟨total, t, hnext, hreach, hover, htotal, hend⟩ :=
        ih (spent := spent + u.cyc) hstill (by omega) (by omega)
      exact ⟨total, t, (runFrom_of_step fuel hlt hu).trans hnext, hreach, hover, by omega, hend⟩
    · exact ⟨spent, s, runFrom_of_reached fuel hge s, hge, hspent, rfl, hrun⟩

/-- Settles O57: `target` executes are fuel enough from nothing spent, and none is needed for the target 0. -/
theorem budgetedRunReachesItsTarget : Obligations.BudgetedRunReachesItsTarget := by
  intro target s hrun
  obtain ⟨spent, t, hnext, hlow, hhigh, hcyc, hstill⟩ :=
    runFrom_reaches target (spent := 0) hrun (Nat.zero_add target).ge (Nat.zero_le _)
  refine ⟨spent, t, hnext, hlow, hhigh, hcyc, hstill, ?_⟩
  rintro rfl
  cases hnext
  exact ⟨rfl, rfl⟩

end Sys2Proof.Machine
end

section
/-! ## The nested-JSR hazard -/

namespace Sys2Proof.Machine

/-- What JSR does to SP and memory (R112, in the model's names for the stack address and the step of SP). -/
theorem sp_mem_of_jsr {target : Word} {s t : State} (h : exec (.jsr target) s = .next t) :
    t.sp = s.sp - 1#8 ∧
      t.mem = (s.mem.write (stackAddr s.sp) (loByte (s.pc + 1#16))).write (stackAddr s.sp - 1#16)
        (hiByte (s.pc + 1#16)) := by
  rw [exec_jsr, execJsr_eq] at h
  cases h
  exact ⟨rfl, rfl⟩

/-- A cell that is neither of the two a word write writes. -/
theorem Memory.read_word_write_of_ne (m : Memory) {q a : Word} (lo hi : Byte) (h : a ≠ q) (h' : a ≠ q - 1#16) :
    ((m.write q lo).write (q - 1#16) hi).read a = m.read a := by
  rw [Memory.read_write, if_neg h', Memory.read_write, if_neg h]

/-- One SP lower is one cell lower, while SP does not wrap (R14; D3, D5). -/
theorem stackAddr_sub_one {sp : Byte} (h : sp ≠ 0x00#8) : stackAddr (sp - 1#8) = stackAddr sp - 1#16 := by
  have hsp := sp.isLt
  have hne := BitVec.toNat_ne_iff_ne.mpr h
  have ha := stackAddr_toNat sp
  have hb := stackAddr_toNat (sp - 1#8)
  bv_omega

/-- The upper cell of a call is no cell of the next one. -/
theorem stackAddr_ne_next (sp : Byte) :
    stackAddr sp ≠ stackAddr (sp - 1#8) ∧ stackAddr sp ≠ stackAddr (sp - 1#8) - 1#16 := by
  have ha := stackAddr_toNat sp
  have hb := stackAddr_toNat (sp - 1#8)
  constructor <;> bv_omega

/-- Settles O59: the second call's cells are the two below the first call's upper one, so the first call's lower cell is
the second call's upper one unless SP wraps in between. -/
theorem nestedJsrLosesTheFirstHighByte : Obligations.NestedJsrLosesTheFirstHighByte := by
  intro s u w t1 t2 pc2 hu hw r1 r2
  obtain ⟨husp, humem⟩ := sp_mem_of_jsr hu
  obtain ⟨hwsp, hwmem⟩ := sp_mem_of_jsr hw
  simp only [husp] at hwsp hwmem
  obtain ⟨hupper, hlower⟩ := stackAddr_ne_next s.sp
  have hhigh : u.mem.read (stackAddr s.sp - 1#16) = hiByte r1 := by rw [humem, Memory.read_write, if_pos rfl]
  refine ⟨hhigh, ?_, ?_, ?_, ?_, fun hne => ?_, fun hzero => ?_⟩
  · rw [hwsp, BitVec.sub_sub]; rfl
  · rw [hwmem, Memory.read_word_write_of_ne _ _ _ hupper hlower, humem, Memory.read_write_below]
  · rw [hwmem, Memory.read_write_below]
  · rw [hwmem, Memory.read_write, if_pos rfl]
  · rw [hwmem, ← stackAddr_sub_one hne, Memory.read_write_below]
  · rw [hwmem, Memory.read_word_write_of_ne, hhigh]
    · rw [hzero]; decide
    · rw [hzero]; decide

end Sys2Proof.Machine
end
